-- ==== Sys2Proof/Word.lean ====
section
/-! DEFINITION. The word types of the autoThrottle servo-link block (spec/00_scope.md R9, 30_encoding.md R87). -/

namespace Sys2Proof

/-- A byte: 8 bits, value 0 to 255 (R9). -/
abbrev Byte := BitVec 8

/-- A 16-bit unsigned value: a target or an acknowledged position (R8, R62). -/
abbrev Half := BitVec 16

/-- The command word `CMD`, 32 bits (R87). -/
abbrev Word := BitVec 32

end Sys2Proof
end

