-- ==== Sys2Proof/Config.lean ====
section
/-! DEFINITION. The constants and parameters of rule R8 (spec/00_scope.md), and the free values: what the
transport answers when the state lists no answer, and what a register the spec leaves without a value holds. -/

namespace Sys2Proof

/-! ## Constants (R8, R30): hard-wired, no command writes them -/

/-- `SEED_ADD` (R8). -/
def Config.seedAdd : Byte := 0xAA
/-- `SEED_XOR` (R8). -/
def Config.seedXor : Byte := 0x55
/-- `SYNC0` (R8, R80). -/
def Config.sync0 : Byte := 0xD5
/-- `SYNC1` (R8, R80). -/
def Config.sync1 : Byte := 0x82
/-- `OPT_POS`, the options byte of a position command (R8, R83). -/
def Config.optPos : Byte := 0x71
/-- `OPT_POLL`, the options byte of a poll (R8, R84). -/
def Config.optPoll : Byte := 0x00
/-- `LEN_SSN`, the length of the Servo-Number payload (R8, R82). -/
def Config.lenSsn : Nat := 6
/-- `LEN_POS`, the length of the Position-Command payload (R8, R83). -/
def Config.lenPos : Nat := 15
/-- `ACK_LEN`, the length of an acknowledgement (R8, R85). -/
def Config.ackLen : Nat := 12
/-- `TOL`, the tolerance band in position units (R8, R179). -/
def Config.tol : Nat := 5
/-- `DATA_MAX`, the longest `DATA` (R8, R91). -/
def Config.dataMax : Nat := 255

/-! ### The timing entries of R8: informative, no rule reads them (R226, R247; log entry 16) -/

/-- `SETTLE_DELAY`, about 50 ms. -/
def Config.settleDelayMs : Nat := 50
/-- `READ_TIMEOUT`, 1 s. -/
def Config.readTimeoutMs : Nat := 1000
/-- `BAUD`. -/
def Config.baud : Nat := 38400

/-! ## Parameters (R8, R31): fixed when the block is built -/

/-- The two admitted values of `SLIP_MASK` (R8, R31). -/
inductive SlipMask where
  | mask02
  | mask03
  deriving DecidableEq, Repr, Inhabited

/-- The mask as the byte that the status byte is ANDed with (R86). -/
def SlipMask.bits : SlipMask → Byte
  | .mask02 => 0x02
  | .mask03 => 0x03

/-- The construction parameters (R8, R31). -/
structure Params where
  servoNumber : Byte
  slipMask    : SlipMask
  deriving DecidableEq, Repr

/-- The defaults of R8: `SERVO_NUMBER = 1`, `SLIP_MASK = 0x02`. -/
def Params.default : Params := { servoNumber := 1, slipMask := .mask02 }

/-! ## What the environment answers, and the free values -/

/-- The transport's answer to `TxWrite` (R7, R36). -/
inductive TxAnswer where
  | ok
  | err
  deriving DecidableEq, Repr, Inhabited

/-- The Ack record: the fields that `decode_ack` extracts (R24, R151). -/
structure AckRecord where
  engaged  : Bool
  slip     : BitVec 2
  alarm    : BitVec 2
  position : Half
  voltage  : Byte
  torque   : Byte
  deriving DecidableEq, Repr, Inhabited

/-- FREE VALUE: the answer to the block's `n`-th `TxWrite` when the state lists none (R7; log entry 3). -/
opaque Config.freeTx : Nat → TxAnswer

/-- FREE VALUE: the bytes that answer the block's `n`-th `RxRead` when the state lists none; the read keeps at
most twelve of them (R7, R66; log entry 3). -/
opaque Config.freeRx : Nat → List Byte

/-- FREE VALUE: what the fields of `ACK` hold after a tick that failed, the block having made `n` writes; the
spec leaves them with no value (R24; log entry 7). -/
opaque Config.freeAck : Nat → AckRecord

end Sys2Proof
end

