-- ==== Sys2Proof/Machine/Checksum.lean ====
section
/-! DEFINITION. The two checksum functions and the dual accumulator (spec/40_checksum.md R110 to R112). -/

namespace Sys2Proof.Machine

/-- `sum8(L, s)`: the running sum modulo 256 (R111). -/
def sum8 : List Byte → Byte → Byte
  | [], s => s
  | b :: l, s => sum8 l (s + b)

/-- `xor8(L, s)`: the running exclusive OR (R112). -/
def xor8 : List Byte → Byte → Byte
  | [], s => s
  | b :: l, s => xor8 l (s ^^^ b)

/-- One step of the dual checksum unit over one byte: the pair is `(ACC_ADD, ACC_XOR)` (R110). -/
def accStep (acc : Byte × Byte) (b : Byte) : Byte × Byte := (acc.1 + b, acc.2 ^^^ b)

/-- The dual checksum unit run over a payload from the two seeds (R110). -/
def accumulate (l : List Byte) : Byte × Byte :=
  l.foldl accStep (Config.seedAdd, Config.seedXor)

end Sys2Proof.Machine
end

