-- ==== Sys2Proof/Syntax.lean ====
section
/-! DEFINITION. The rows of spec/opcode_table.json as one inductive: nine commands of the host command port
(spec/30_encoding.md R88) and four wire frames (R82 to R85), and what is presented to the decoder. -/

namespace Sys2Proof

/-- The twelve bytes of an acknowledgement (R85), named as the table's row names them: `z` the bytes the parser
ignores, `s` status, `l` and `h` position, `v` voltage, `q` torque. -/
structure AckBytes where
  z0  : Byte
  z1  : Byte
  z2  : Byte
  z3  : Byte
  z4  : Byte
  s   : Byte
  l   : Byte
  h   : Byte
  v   : Byte
  q   : Byte
  z10 : Byte
  z11 : Byte
  deriving DecidableEq, Repr

/-- One constructor per row of the opcode table. A command carries its operands, `DATA` among them, as its
assembler form does (R89, R94); a wire frame carries the bytes its row leaves open. -/
inductive Instr where
  /-- CHKADD seed, DATA (R113). -/
  | chkadd (seed : Byte) (data : List Byte)
  /-- CHKXOR seed, DATA (R114). -/
  | chkxor (seed : Byte) (data : List Byte)
  /-- ENCSSN (R134). -/
  | encssn
  /-- ENCPOS target (R135). -/
  | encpos (target : Half)
  /-- ENCPOLL (R136). -/
  | encpoll
  /-- DECACK DATA (R153). -/
  | decack (data : List Byte)
  /-- SETINT target (R170). -/
  | setint (target : Half)
  /-- SETPOLL (R171). -/
  | setpoll
  /-- TICK (R173). -/
  | tick
  /-- SSN_FRAME (R82): servo number `n`, its complement `c`, the two checksums `a` and `x`. -/
  | ssnFrame (n c a x : Byte)
  /-- POS_FRAME (R83): target bytes `l` and `h`, the two checksums `a` and `x`. -/
  | posFrame (l h a x : Byte)
  /-- POLL_FRAME (R84): a constant. -/
  | pollFrame
  /-- ACK_FRAME (R85). -/
  | ackFrame (raw : AckBytes)
  deriving DecidableEq, Repr

/-- What the decoder reads: a command word with its data port (R35, R87), or the bytes of one wire frame, the
first byte transmitted first (R80). -/
inductive Transaction where
  | command (cmd : Word) (data : List Byte)
  | wire (bytes : List Byte)
  deriving DecidableEq, Repr

/-- The assembler's command forms (R94). The two targets are integers: -1 is the pseudo-command (R95), and a
value out of range has no expansion. -/
inductive AsmLine where
  | chkadd (seed : Byte) (data : List Byte)
  | chkxor (seed : Byte) (data : List Byte)
  | encssn
  | encpos (target : Int)
  | encpoll
  | decack (data : List Byte)
  | setint (target : Int)
  | setpoll
  | tick
  deriving DecidableEq, Repr

end Sys2Proof
end

