-- ==== Sys2Proof/Machine/Operands.lean ====
section
/-! DEFINITION. The operand forms: byte-list reads (spec/00_scope.md R10), the two payloads and the frame
assembly (41_frame_encoder.md R130 to R132), and the `DATA` law (30_encoding.md R91). -/

namespace Sys2Proof.Machine

/-- `v & 0xFF` as a byte (R62). -/
def loByte (v : Half) : Byte := (v &&& 0xFF).setWidth 8

/-- `(v >> 8) & 0xFF` as a byte (R62). -/
def hiByte (v : Half) : Byte := ((v >>> 8) &&& 0xFF).setWidth 8

/-- `L[i]` of a byte list (R9), for an offset the list has. -/
def byteAt (l : List Byte) (i : Nat) : Byte := l.getD i 0

/-- `MemRead(L, i, n)`: the little-endian value of `n` bytes from offset `i` (R10). -/
def memRead (l : List Byte) (i : Nat) : Nat → Nat
  | 0 => 0
  | n + 1 => (byteAt l i).toNat + 256 * memRead l (i + 1) n

/-- `zeros(k)` (R9). -/
def zeros (k : Nat) : List Byte := List.replicate k 0x00

/-- The Servo-Number payload (R130). -/
def ssnPayload (n : Byte) : List Byte :=
  [0x00, 0x00, 0xAA, 0x55, n &&& 0xFF, (n ^^^ 0xFF) &&& 0xFF]

/-- The Position-Command payload for the intent `(poll, t)` (R131). -/
def posPayload (poll : Bool) (t : Half) : List Byte :=
  if poll then [0x01, 0x00, 0x01, Config.optPoll, 0x00, 0x00] ++ zeros 9
  else [0x01, 0x00, 0x01, Config.optPos, loByte t, hiByte t] ++ zeros 9

/-- `make_frame(P)`: sync bytes, length, payload, the two checksums of the payload (R132). -/
def makeFrame (p : List Byte) : List Byte :=
  [Config.sync0, Config.sync1, BitVec.ofNat 8 p.length] ++ p ++
    [sum8 p Config.seedAdd, xor8 p Config.seedXor]

/-- Whether a byte list can stand on the data port: at most `DATA_MAX` bytes (R91). -/
def dataFits (data : List Byte) : Bool := decide (data.length ≤ Config.dataMax)

/-! ## The wire frames byte by byte (spec/30_encoding.md R82 to R85), offset 0 first -/

/-- SSN_FRAME with its open bytes (R82). -/
def ssnFrameBytes (n c a x : Byte) : List Byte :=
  [0xD5, 0x82, 0x06, 0x00, 0x00, 0xAA, 0x55, n, c, a, x]

/-- POS_FRAME with its open bytes (R83). -/
def posFrameBytes (l h a x : Byte) : List Byte :=
  [0xD5, 0x82, 0x0F, 0x01, 0x00, 0x01, 0x71, l, h,
   0x00, 0x00, 0x00, 0x00, 0x00, 0x00, 0x00, 0x00, 0x00, a, x]

/-- POLL_FRAME, a constant (R84). -/
def pollFrameBytes : List Byte :=
  [0xD5, 0x82, 0x0F, 0x01, 0x00, 0x01, 0x00, 0x00, 0x00,
   0x00, 0x00, 0x00, 0x00, 0x00, 0x00, 0x00, 0x00, 0x00, 0xAC, 0x55]

/-- ACK_FRAME, its twelve bytes in the order they arrive (R85). -/
def ackFrameBytes (r : AckBytes) : List Byte :=
  [r.z0, r.z1, r.z2, r.z3, r.z4, r.s, r.l, r.h, r.v, r.q, r.z10, r.z11]

end Sys2Proof.Machine
end

