-- ==== Sys2Proof/WellFormed.lean ====
section
/-! DEFINITION. Which terms of `Instr` the spec's encodings admit: the length of `DATA` (spec/30_encoding.md R91)
and the bytes of a frame that its other bytes fix (R80, R82, R83). -/

namespace Sys2Proof

/-- The bytes of a Set-Servo-Number frame that R82 fixes: the complement and the two checksums. -/
def ssnFrameFits (n c a x : Byte) : Bool :=
  c == n ^^^ 0xFF && a == Machine.sum8 [0x00, 0x00, 0xAA, 0x55, n, c] Config.seedAdd &&
    x == Machine.xor8 [0x00, 0x00, 0xAA, 0x55, n, c] Config.seedXor

/-- The bytes of a Position-Command frame that R83 fixes: the two checksums of the payload. -/
def posFrameFits (l h a x : Byte) : Bool :=
  a == Machine.sum8 ([0x01, 0x00, 0x01, 0x71, l, h] ++ Machine.zeros 9) Config.seedAdd &&
    x == Machine.xor8 ([0x01, 0x00, 0x01, 0x71, l, h] ++ Machine.zeros 9) Config.seedXor

/-- Well-formedness of an instruction term. -/
def Instr.wellFormed : Instr → Bool
  | .chkadd _ data => Machine.dataFits data
  | .chkxor _ data => Machine.dataFits data
  | .encssn => true
  | .encpos _ => true
  | .encpoll => true
  | .decack data => Machine.dataFits data
  | .setint _ => true
  | .setpoll => true
  | .tick => true
  | .ssnFrame n c a x => ssnFrameFits n c a x
  | .posFrame l h a x => posFrameFits l h a x
  | .pollFrame => true
  | .ackFrame _ => true

end Sys2Proof
end

