-- ==== Sys2Proof/Decode.lean ====
section
/-! DEFINITION. The decoder, total on any command word and on any bytes, rejecting by name, and after it the
encoder, both written from the opcode map (spec/30_encoding.md R87 to R91) and the frame layouts (R82 to R85). -/

namespace Sys2Proof

/-- Why the decoder gives no instruction. -/
inductive DecodeReject where
  /-- No row of R88 matches the command word (R90). -/
  | reservedWord
  /-- A `DATA` that breaks R91, or an assembler target out of range (R95). -/
  | badOperand
  /-- Bytes that are none of the frames of R82 to R85. -/
  | notAFrame
  deriving DecidableEq, Repr

/-! ## Command words -/

/-- The nine commands that the rows of R88 select. -/
inductive CmdKind where
  | chkadd | chkxor | encssn | encpos | encpoll | decack | setint | setpoll | tick
  deriving DecidableEq, Repr

/-- A row of R88: a word selects it when `(CMD & mask) = pattern`; `takesData` is the row's DATA column (R91). -/
structure OpRow where
  kind      : CmdKind
  pattern   : Word
  mask      : Word
  takesData : Bool
  deriving DecidableEq, Repr

/-- The opcode map (R88). -/
def opRows : List OpRow :=
  [ ⟨.chkadd,  0x10000000, 0xFFFFFF00, true⟩,
    ⟨.chkxor,  0x20000000, 0xFFFFFF00, true⟩,
    ⟨.encssn,  0x30000000, 0xFFFFFFFF, false⟩,
    ⟨.encpos,  0x40000000, 0xFFFF0000, false⟩,
    ⟨.encpoll, 0x40010000, 0xFFFFFFFF, false⟩,
    ⟨.decack,  0x50000000, 0xFFFFFFFF, true⟩,
    ⟨.setint,  0x60000000, 0xFFFF0000, false⟩,
    ⟨.setpoll, 0x60010000, 0xFFFFFFFF, false⟩,
    ⟨.tick,    0x70000000, 0xFFFFFFFF, false⟩ ]

/-- `(CMD & mask) = match` (R88). -/
def OpRow.selects (r : OpRow) (cmd : Word) : Bool := cmd &&& r.mask == r.pattern

/-- Operand assembly (R89): the seed is `CMD[7:0]`, the target `CMD[15:0]`, never sign-extended. -/
def buildCommand (k : CmdKind) (cmd : Word) (data : List Byte) : Instr :=
  match k with
  | .chkadd => .chkadd (cmd.extractLsb' 0 8) data
  | .chkxor => .chkxor (cmd.extractLsb' 0 8) data
  | .encssn => .encssn
  | .encpos => .encpos (cmd.extractLsb' 0 16)
  | .encpoll => .encpoll
  | .decack => .decack data
  | .setint => .setint (cmd.extractLsb' 0 16)
  | .setpoll => .setpoll
  | .tick => .tick

/-- The `DATA` law (R91): at most 255 bytes where the command takes data, none where it does not. -/
def dataAdmitted (takesData : Bool) (data : List Byte) : Bool :=
  if takesData then Machine.dataFits data else data.isEmpty

/-- A command word with its `DATA`: the word is checked first, then the operand (R219). -/
def decodeCommand (cmd : Word) (data : List Byte) : Except DecodeReject Instr :=
  match opRows.find? (fun r => r.selects cmd) with
  | none => .error .reservedWord
  | some r =>
    if dataAdmitted r.takesData data then .ok (buildCommand r.kind cmd data)
    else .error .badOperand

/-! ## Wire frames -/

/-- The rows of the opcode table that are frames. -/
inductive WireKind where
  | ssn | pos | poll | ack
  deriving DecidableEq, Repr

/-- A frame row: the table's match and mask, byte 0 first. -/
structure WireRow where
  kind    : WireKind
  pattern : List Byte
  mask    : List Byte
  deriving DecidableEq, Repr

/-- The four frame rows (R82 to R85). -/
def wireRows : List WireRow :=
  [ ⟨.ssn, Machine.ssnFrameBytes 0 0 0 0, List.replicate 7 0xFF ++ List.replicate 4 0x00⟩,
    ⟨.pos, Machine.posFrameBytes 0 0 0 0,
      List.replicate 7 0xFF ++ List.replicate 2 0x00 ++ List.replicate 9 0xFF ++ List.replicate 2 0x00⟩,
    ⟨.poll, Machine.pollFrameBytes, List.replicate 20 0xFF⟩,
    ⟨.ack, List.replicate 12 0x00, List.replicate 12 0x00⟩ ]

/-- A byte list of the row's length whose masked bytes are the row's pattern. -/
def WireRow.selects (r : WireRow) (bytes : List Byte) : Bool :=
  bytes.length == r.mask.length && List.zipWith (· &&& ·) bytes r.mask == r.pattern

/-- The fields of a frame, each at its offset (R82, R83, R85). -/
def buildFrame (k : WireKind) (bytes : List Byte) : Instr :=
  let b := Machine.byteAt bytes
  match k with
  | .ssn => .ssnFrame (b 7) (b 8) (b 9) (b 10)
  | .pos => .posFrame (b 7) (b 8) (b 18) (b 19)
  | .poll => .pollFrame
  | .ack => .ackFrame ⟨b 0, b 1, b 2, b 3, b 4, b 5, b 6, b 7, b 8, b 9, b 10, b 11⟩

/-- The frame that a byte list is, by its length and fixed bytes (R81, R85). -/
def decodeWire (bytes : List Byte) : Except DecodeReject Instr :=
  match wireRows.find? (fun r => r.selects bytes) with
  | none => .error .notAFrame
  | some r => .ok (buildFrame r.kind bytes)

/-- The decoder. -/
def decode : Transaction → Except DecodeReject Instr
  | .command cmd data => decodeCommand cmd data
  | .wire bytes => decodeWire bytes

/-! ## The encoder -/

/-- The transaction that presents an instruction (R87 to R89 for a command, R82 to R85 for a frame). -/
def encode : Instr → Transaction
  | .chkadd seed data => .command (0x10000000 ||| seed.setWidth 32) data
  | .chkxor seed data => .command (0x20000000 ||| seed.setWidth 32) data
  | .encssn => .command 0x30000000 []
  | .encpos t => .command (0x40000000 ||| t.setWidth 32) []
  | .encpoll => .command 0x40010000 []
  | .decack data => .command 0x50000000 data
  | .setint t => .command (0x60000000 ||| t.setWidth 32) []
  | .setpoll => .command 0x60010000 []
  | .tick => .command 0x70000000 []
  | .ssnFrame n c a x => .wire (Machine.ssnFrameBytes n c a x)
  | .posFrame l h a x => .wire (Machine.posFrameBytes l h a x)
  | .pollFrame => .wire Machine.pollFrameBytes
  | .ackFrame raw => .wire (Machine.ackFrameBytes raw)

/-! ## The assembler's pseudo-commands -/

/-- A target of the assembler (R95): -1 is the poll form, 0 to 65535 the plain form, anything else has no
expansion and is refused (R218). -/
def assembleTarget (poll : Instr) (plain : Half → Instr) (t : Int) : Except DecodeReject Instr :=
  if t = -1 then .ok poll
  else if 0 ≤ t ∧ t ≤ 65535 then .ok (plain (BitVec.ofNat 16 t.toNat))
  else .error .badOperand

/-- A command that takes data, from the assembler: the `DATA` law holds of it too (R91). -/
def assembleData (i : Instr) (data : List Byte) : Except DecodeReject Instr :=
  if Machine.dataFits data then .ok i else .error .badOperand

/-- Each assembler line expands to exactly one command (R94, R95), or is refused. -/
def assemble : AsmLine → Except DecodeReject Instr
  | .chkadd seed data => assembleData (.chkadd seed data) data
  | .chkxor seed data => assembleData (.chkxor seed data) data
  | .encssn => .ok .encssn
  | .encpos t => assembleTarget .encpoll .encpos t
  | .encpoll => .ok .encpoll
  | .decack data => assembleData (.decack data) data
  | .setint t => assembleTarget .setpoll .setint t
  | .setpoll => .ok .setpoll
  | .tick => .ok .tick

/-! ## The opcode table's numbering of an instruction's bits -/

/-- `n` bytes of a number, the most significant first: spec/opcode_table.json numbers a frame "as one integer,
byte 0 most significant" (log entry 10). -/
def bytesOfTableNumber : Nat → Nat → List Byte
  | 0, _ => []
  | n + 1, w => BitVec.ofNat 8 (w / 256 ^ n) :: bytesOfTableNumber n w

/-- The transaction whose bits the opcode table numbers as `w`: 32 bits are a command word, its `DATA` empty;
any other size is a frame of that many bits. -/
def transactionOfTableWord (nbits w : Nat) : Transaction :=
  if nbits = 32 then .command (BitVec.ofNat 32 w) []
  else .wire (bytesOfTableNumber (nbits / 8) w)

/-- The instruction the decoder reads from the table's numbering of it (log entry 10). -/
def decodeTableWord (nbits w : Nat) : Option Instr :=
  match decode (transactionOfTableWord nbits w) with
  | .ok i => some i
  | .error _ => none

end Sys2Proof
end

