-- ==== Sys2Proof/Machine/State.lean ====
section
/-! DEFINITION. The state of the block (spec/10_state.md R20), its ports (R35), the environment as plain data
(00_scope.md R6, R7), the reasons a step can stop (60_exceptions.md R217, R218), and the state after reset (R38). -/

namespace Sys2Proof.Machine

/-- A byte space: (offset, byte) cells, offsets strictly rising; an offset that is not listed has no value. The
only byte space that persists is `FRAME` (20_memory.md R60). -/
abbrev Memory := List Host.Cell

/-- The four controller states (R21). -/
inductive CtrlState where
  | error
  | engaged
  | armed
  | standby
  deriving DecidableEq, Repr

/-- `INTENT` (R23). -/
structure Intent where
  valid  : Bool
  poll   : Bool
  target : Half
  deriving DecidableEq, Repr

/-- `ACK`, the acknowledgement snapshot (R24). -/
structure AckSnapshot where
  valid  : Bool
  fields : AckRecord
  deriving DecidableEq, Repr

/-- `TICK_RESULT` (R25). -/
structure TickResult where
  valid : Bool
  cont  : Bool
  deriving DecidableEq, Repr

/-- What the `RESULT` port carries after a command (R35). -/
inductive CmdResult where
  /-- Nothing: SETINT, SETPOLL, and before the first command. -/
  | nothing
  /-- A checksum byte: CHKADD, CHKXOR. -/
  | byte (b : Byte)
  /-- `(len, bytes)`: the encoder commands. -/
  | frame (len : BitVec 5) (bytes : List Byte)
  /-- `(ok, Ack)`: DECACK; `none` is `ok = 0`. -/
  | ack (answer : Option AckRecord)
  /-- `cont`: TICK. -/
  | cont (c : Bool)
  deriving DecidableEq, Repr

/-- The elements that the host may read between commands (R33). -/
inductive Element where
  | state
  | ackValid
  | ackEngaged
  | ackSlip
  | ackAlarm
  | ackPosition
  | ackVoltage
  | ackTorque
  | tickValid
  | tickCont
  | errCause
  | frameLen
  | frameByte (i : Nat)
  | accAdd
  | accXor
  deriving DecidableEq, Repr

/-- What is presented to the block, one at a time (R35, R70): a transaction, the host's read of a status output
(R33), or the `RESET` input (R240). -/
inductive Event where
  | transaction (t : Transaction)
  | read (e : Element)
  | reset
  deriving DecidableEq, Repr

/-- The transport link as the block sees it (R36), all of it the model's own (log entries 3 and 4): `frames` the
frames offered to the transport, oldest first; `writes` and `reads` how many TxWrite and RxRead the block has
made; `txQueue` and `rxQueue` the environment's next answers. -/
structure Link where
  frames  : List (List Byte)
  writes  : Nat
  reads   : Nat
  txQueue : List TxAnswer
  rxQueue : List (List Byte)
  deriving DecidableEq, Repr

/-- Why the model gives a command no meaning in a state (R217). Both are the spec's own. -/
inductive Fault where
  /-- `INTENT_UNSET`: raised by TICK in ENGAGED or ARMED with `INTENT.valid = 0`; safe. -/
  | intentUnset
  /-- `READ_INVALID`: raised by the host's read of an element whose valid condition is false; safe. -/
  | readInvalid
  deriving DecidableEq, Repr

/-- Why a run is refused (R218). -/
inductive Refusal where
  /-- An instruction with no meaning yet; raised by the dispatcher alone; safe. -/
  | notModelled (mnemonic : String)
  /-- `REFUSED_ENCODING`: a reserved command word (R90); raised by the step; safe. -/
  | reservedEncoding
  /-- `REFUSED_OPERAND`: a `DATA` that breaks R91; raised by the step and by the meanings that take data; safe. -/
  | badOperand
  /-- `REFUSED_ENV`: a read answer longer than 12 bytes (R66); raised by TICK; safe. -/
  | badEnvironment
  /-- Bytes on the link that are none of the frames of R82 to R85; raised by the step; safe. -/
  | notAFrame
  deriving DecidableEq, Repr

/-- The state: the elements of R20, the construction parameters (R31), the ports (R35), and the environment. -/
structure State where
  /-- `SERVO_NUMBER` and `SLIP_MASK` (R31); nothing writes them (log entry 1). -/
  params     : Params
  /-- `STATE` (R21). -/
  ctrl       : CtrlState
  /-- `INTENT` (R23). -/
  intent     : Intent
  /-- `ACK` (R24). -/
  ack        : AckSnapshot
  /-- `TICK_RESULT` (R25). -/
  tickResult : TickResult
  /-- `ERRCAUSE` (R26). -/
  errCause   : BitVec 3
  /-- `FRAME_LEN` (R27). -/
  frameLen   : BitVec 5
  /-- `FRAME[0..19]` (R27, R60). -/
  frame      : Memory
  /-- `ACC_ADD` (R28). -/
  accAdd     : Byte
  /-- `ACC_XOR` (R28). -/
  accXor     : Byte
  /-- The `RESULT` port (R35; log entry 5). -/
  result     : CmdResult
  /-- The status output the host read last (R33; log entry 5). -/
  readout    : Option (BitVec 16)
  /-- What the host and the link present next, oldest first (log entry 2). -/
  inbox      : List Event
  /-- The transport (R36). -/
  link       : Link
  deriving DecidableEq, Repr

/-- The reset value of the Ack fields, for which the spec gives none (log entry 6). DESIGN CHOICE. -/
def ackRecordAtReset : AckRecord :=
  { engaged := false, slip := 0, alarm := 0, position := 0, voltage := 0, torque := 0 }

/-- The block right after reset (R38, R240), built with the default parameters (R8) and nothing presented to it.
Elements the spec leaves with no value hold the values of log entry 6. -/
def State.reset : State :=
  { params := Params.default
    ctrl := .armed
    intent := { valid := false, poll := false, target := 0 }
    ack := { valid := false, fields := ackRecordAtReset }
    tickResult := { valid := false, cont := false }
    errCause := 0
    frameLen := 0
    frame := []
    accAdd := 0
    accXor := 0
    result := .nothing
    readout := none
    inbox := []
    link := { frames := [], writes := 0, reads := 0, txQueue := [], rxQueue := [] } }

end Sys2Proof.Machine
end

