-- ==== Sys2Proof/Machine/Flags.lean ====
section
/-! DEFINITION. The codes, the status fields and the transition tests: STATE's encoding (spec/10_state.md R22), the
error codes (60_exceptions.md R211), the acknowledgement's fields (42_frame_parser.md R150, R151), the target as an
integer (43_supervisor.md R172) and the transition function (R179). -/

namespace Sys2Proof.Machine

/-- The code of a controller state (R22). -/
def ctrlCode : CtrlState → BitVec 2
  | .error => 0b00
  | .engaged => 0b01
  | .armed => 0b10
  | .standby => 0b11

/-- The causes that have a code in R211. The first two are raised by TICK; `transportOpenFailure` is the host's
(R214) and `unknownState` is unreachable (R215): the block writes neither. -/
inductive Cause where
  | ackDecodeFailure
  | transportWriteFailure
  | transportOpenFailure
  | unknownState
  deriving DecidableEq, Repr

/-- The `ERRCAUSE` code of a cause (R211). -/
def causeCode : Cause → BitVec 3
  | .ackDecodeFailure => 1
  | .transportWriteFailure => 2
  | .transportOpenFailure => 3
  | .unknownState => 4

/-! ## Status fields (R86, R151) -/

/-- `engaged = s & 0x01`. -/
def engagedOf (status : Byte) : Bool := status &&& 0x01 == 0x01

/-- `slip = s & SLIP_MASK`: the masked value itself. -/
def slipOf (m : SlipMask) (status : Byte) : BitVec 2 := (status &&& m.bits).setWidth 2

/-- `alarm = s & 0x03`. -/
def alarmOf (status : Byte) : BitVec 2 := (status &&& 0x03).setWidth 2

/-- `extract(RAW)`, for twelve bytes or more (R151). -/
def extract (m : SlipMask) (raw : List Byte) : AckRecord :=
  { engaged := engagedOf (byteAt raw 5)
    slip := slipOf m (byteAt raw 5)
    alarm := alarmOf (byteAt raw 5)
    position := BitVec.ofNat 16 (memRead raw 6 2)
    voltage := byteAt raw 8
    torque := byteAt raw 9 }

/-- `decode_ack(RAW)`: fails when and only when fewer than twelve bytes arrived (R150). -/
def decodeAck (m : SlipMask) (raw : List Byte) : Option AckRecord :=
  if raw.length < Config.ackLen then none else some (extract m raw)

/-! ## The transition (R172, R179) -/

/-- `target_int(INTENT)`: -1 for the poll sentinel (R172). -/
def targetInt (i : Intent) : Int := if i.poll then -1 else (i.target.toNat : Int)

/-- `abs(pos - tgt)`, an integer, no wrap (R179). -/
def distance (pos : Half) (tgt : Int) : Nat := ((pos.toNat : Int) - tgt).natAbs

/-- The tolerance tests of R179, before slip is looked at. -/
def toleranceState (c : CtrlState) (dist : Nat) : CtrlState :=
  match c with
  | .engaged => if dist < Config.tol then .armed else .engaged
  | .armed => if Config.tol ≤ dist then .engaged else .armed
  | .error => .error
  | .standby => .standby

/-- `next_state(S, tgt, pos, slip)`: the slip value is compared with 1 and wins (R179). -/
def nextState (c : CtrlState) (tgt : Int) (pos : Half) (slip : BitVec 2) : CtrlState :=
  if slip = 1 then .standby else toleranceState c (distance pos tgt)

end Sys2Proof.Machine
end

