-- ==== Sys2Proof/Machine/Ops.lean ====
section
/-! DEFINITION. The named operations over the state: the FRAME byte space, the encoder's register update
(spec/41_frame_encoder.md R133), the transport's two transactions (10_state.md R36), the end of a tick and the
entry into ERROR (43_supervisor.md R180), reset (70_reset_and_hazards.md R240) and the host's read (10_state.md R33). -/

namespace Sys2Proof.Machine

/-! ## The FRAME byte space -/

/-- The byte at an offset; an offset not listed has no value (R20, R27). -/
def Memory.read : Memory → Nat → Option Byte
  | [], _ => none
  | (a, b) :: m, i => if a = i then some b else Memory.read m i

/-- A byte list placed at rising offsets from a base. -/
def Memory.loadAt : Nat → List Byte → Memory
  | _, [] => []
  | a, b :: l => (a, b) :: Memory.loadAt (a + 1) l

/-- `FRAME[0 .. len(F)-1] <- F`; every other offset is left with no value (R133). -/
def Memory.load (f : List Byte) : Memory := Memory.loadAt 0 f

/-- `L[i .. i+n-1]` of a byte space, in offset order (R65). -/
def Memory.bytesFrom (m : Memory) (i : Nat) : Nat → List Byte
  | 0 => []
  | n + 1 => (Memory.read m i).toList ++ Memory.bytesFrom m (i + 1) n

/-- Offsets strictly rising from at least `low`, all below 20: the canonical form of FRAME (R60). -/
def Memory.wfFrom : Nat → Memory → Bool
  | _, [] => true
  | low, (a, _) :: m => decide (low ≤ a) && decide (a < 20) && Memory.wfFrom (a + 1) m

/-- The canonical form. -/
def Memory.wf (m : Memory) : Bool := Memory.wfFrom 0 m

/-! ## The encoder -/

/-- `FRAME[0 .. FRAME_LEN-1]` (R27). -/
def frameBytes (s : State) : List Byte := Memory.bytesFrom s.frame 0 s.frameLen.toNat

/-- The encoder register update with payload `p` (R133); the accumulators are those of the checksum unit run over
the payload (R110). -/
def encoderUpdate (p : List Byte) (s : State) : State :=
  { s with
    frame := Memory.load (makeFrame p)
    frameLen := BitVec.ofNat 5 (makeFrame p).length
    accAdd := (accumulate p).1
    accXor := (accumulate p).2 }

/-- `result <- (FRAME_LEN, FRAME[0 .. FRAME_LEN-1])` (R134 to R136). -/
def resultFrame (s : State) : State := { s with result := .frame s.frameLen (frameBytes s) }

/-! ## The transport -/

/-- The answer the transport gives to the next `TxWrite`: a draw (R7; log entry 3). -/
def txAnswer (s : State) : TxAnswer :=
  match s.link.txQueue with
  | a :: _ => a
  | [] => Config.freeTx s.link.writes

/-- The answer the transport gives to the next `RxRead(12)`: a draw (R7, R66; log entry 3). -/
def rxAnswer (s : State) : List Byte :=
  match s.link.rxQueue with
  | a :: _ => a
  | [] => (Config.freeRx s.link.reads).take Config.ackLen

/-- The link after one whole frame was offered by `TxWrite` (R65) and answered. -/
def Link.afterWrite (l : Link) (bytes : List Byte) : Link :=
  { l with frames := l.frames ++ [bytes], writes := l.writes + 1, txQueue := l.txQueue.tail }

/-- The link after one `RxRead(12)` was answered: the returned bytes are consumed (R66). -/
def Link.afterRead (l : Link) : Link :=
  { l with reads := l.reads + 1, rxQueue := l.rxQueue.tail }

/-- `TxWrite(bytes)` (R36): the answer is `txAnswer` of the state before. -/
def txWrite (bytes : List Byte) (s : State) : State := { s with link := s.link.afterWrite bytes }

/-- `RxRead(12)` (R36): the answer is `rxAnswer` of the state before. -/
def rxRead (s : State) : State := { s with link := s.link.afterRead }

/-- A frame that crosses the link without the block (R65, R134): the transport is offered it (log entry 9). -/
def linkOffer (bytes : List Byte) (s : State) : State :=
  { s with link := { s.link with frames := s.link.frames ++ [bytes] } }

/-- An acknowledgement that crosses the link: it becomes the answer of a read to come (R7, R66; log entry 9). -/
def linkDeliver (bytes : List Byte) (s : State) : State :=
  { s with link := { s.link with rxQueue := s.link.rxQueue ++ [bytes] } }

/-! ## The end of a tick, and the entry into ERROR -/

/-- `TICK_RESULT <- (1, c) ; result <- c` (R173). -/
def finishTick (c : Bool) (s : State) : State :=
  { s with tickResult := { valid := true, cont := c }, result := .cont c }

/-- `ACK.valid <- 0`; the other fields are left with no value, here a free value (R24, R178; log entry 7). -/
def invalidateAck (s : State) : State :=
  { s with ack := { valid := false, fields := Config.freeAck s.link.writes } }

/-- `enter_error(c)`, the block's one exception entry (R180, R220): nothing is saved but the cause, and control
goes nowhere. There is no return from it (R222): reset is the only way out, `resetBlock` below. -/
def enterError (c : Cause) (s : State) : State :=
  finishTick false { s with ctrl := .error, errCause := causeCode c }

/-! ## Reset -/

/-- The `RESET` input (R240): every element of R20 at its reset value; the parameters and the transport are not
touched (R241). -/
def resetBlock (s : State) : State :=
  { State.reset with params := s.params, readout := s.readout, inbox := s.inbox, link := s.link }

/-! ## The host's read of a status output (R33) -/

/-- A value where its valid condition holds. -/
def readWhen (c : Bool) (v : BitVec 16) : Option (BitVec 16) := if c then some v else none

/-- A single bit as a status output. -/
def bitOut (b : Bool) : BitVec 16 := if b then 1 else 0

/-- An element's value, zero-extended, or none where its valid condition is false (R33). -/
def elementValue (e : Element) (s : State) : Option (BitVec 16) :=
  match e with
  | .state => some ((ctrlCode s.ctrl).setWidth 16)
  | .ackValid => some (bitOut s.ack.valid)
  | .ackEngaged => readWhen s.ack.valid (bitOut s.ack.fields.engaged)
  | .ackSlip => readWhen s.ack.valid (s.ack.fields.slip.setWidth 16)
  | .ackAlarm => readWhen s.ack.valid (s.ack.fields.alarm.setWidth 16)
  | .ackPosition => readWhen s.ack.valid s.ack.fields.position
  | .ackVoltage => readWhen s.ack.valid (s.ack.fields.voltage.setWidth 16)
  | .ackTorque => readWhen s.ack.valid (s.ack.fields.torque.setWidth 16)
  | .tickValid => some (bitOut s.tickResult.valid)
  | .tickCont => readWhen s.tickResult.valid (bitOut s.tickResult.cont)
  | .errCause => some (s.errCause.setWidth 16)
  | .frameLen => some (s.frameLen.setWidth 16)
  | .frameByte i =>
    if i < s.frameLen.toNat then (Memory.read s.frame i).map (·.setWidth 16) else none
  | .accAdd => readWhen (s.frameLen != 0) (s.accAdd.setWidth 16)
  | .accXor => readWhen (s.frameLen != 0) (s.accXor.setWidth 16)

/-- The host reads an element (R33); a read whose valid condition is false is `READ_INVALID` (R217). -/
def hostRead (e : Element) (s : State) : Host.Outcome State Fault Refusal :=
  match elementValue e s with
  | some v => .next { s with readout := some v }
  | none => .fault .readInvalid

end Sys2Proof.Machine
end

