-- ==== Sys2Proof/Machine/ChecksumUnit.lean ====
section
/-! DEFINITION. The checksum commands (spec/40_checksum.md R113, R114). They write no state element; only `RESULT`
answers. A `DATA` over 255 bytes is refused (30_encoding.md R91). -/

namespace Sys2Proof.Machine

/-- `result <- b`, for a checksum command over a `DATA` that the port can carry (R91, R113, R114). -/
def checksumResult (data : List Byte) (b : Byte) (s : State) : Host.Outcome State Fault Refusal :=
  if dataFits data then .next { s with result := .byte b } else .refused .badOperand

/-- CHKADD (R113). -/
def execChkadd (seed : Byte) (data : List Byte) (s : State) : Host.Outcome State Fault Refusal :=
  checksumResult data (sum8 data seed) s

/-- CHKXOR (R114). -/
def execChkxor (seed : Byte) (data : List Byte) (s : State) : Host.Outcome State Fault Refusal :=
  checksumResult data (xor8 data seed) s

end Sys2Proof.Machine
end

