-- ==== Sys2Proof/Machine/FrameEncoder.lean ====
section
/-! DEFINITION. The encoder commands (spec/41_frame_encoder.md R134 to R136). They have no failure mode; that their
`DATA` is empty is checked where the command is decoded (30_encoding.md R91). -/

namespace Sys2Proof.Machine

/-- The body the three commands share: the register update with a payload, then the frame as the result. -/
def encodePayload (p : List Byte) (s : State) : Host.Outcome State Fault Refusal :=
  .next (resultFrame (encoderUpdate p s))

/-- ENCSSN (R134): the Set-Servo-Number frame of the construction parameter `SERVO_NUMBER`. -/
def execEncssn (s : State) : Host.Outcome State Fault Refusal :=
  encodePayload (ssnPayload s.params.servoNumber) s

/-- ENCPOS (R135). -/
def execEncpos (target : Half) (s : State) : Host.Outcome State Fault Refusal :=
  encodePayload (posPayload false target) s

/-- ENCPOLL (R136). -/
def execEncpoll (s : State) : Host.Outcome State Fault Refusal :=
  encodePayload (posPayload true 0) s

end Sys2Proof.Machine
end

