-- ==== Sys2Proof/Machine/FrameParser.lean ====
section
/-! DEFINITION. The parser command DECACK (spec/42_frame_parser.md R153). -/

namespace Sys2Proof.Machine

/-- DECACK (R153): the decode result on the result port and nothing else; a decode failure is an answer (R216). -/
def execDecack (data : List Byte) (s : State) : Host.Outcome State Fault Refusal :=
  if dataFits data then .next { s with result := .ack (decodeAck s.params.slipMask data) }
  else .refused .badOperand

end Sys2Proof.Machine
end

