-- ==== Sys2Proof/Machine/Supervisor.lean ====
section
/-! DEFINITION. The supervisor's commands (spec/43_supervisor.md): SETINT, SETPOLL (R170, R171) and TICK with its
four arms (R173 to R177), the exchange sequence (R178) and its two failures (60_exceptions.md R212, R213). -/

namespace Sys2Proof.Machine

/-- SETINT (R170); the result port carries nothing (R35). -/
def execSetint (target : Half) (s : State) : Host.Outcome State Fault Refusal :=
  .next { s with intent := { valid := true, poll := false, target := target }, result := .nothing }

/-- SETPOLL (R171). -/
def execSetpoll (s : State) : Host.Outcome State Fault Refusal :=
  .next { s with intent := { valid := true, poll := true, target := 0 }, result := .nothing }

/-- A failed exchange: the snapshot is invalid, then the entry into ERROR (R178, R212, R213). -/
def failExchange (c : Cause) (s : State) : State := enterError c (invalidateAck s)

/-- A successful decode: ACK is replaced whole, STATE moves by R179 from the state at the start of the tick, and
the tick continues (R178). -/
def acceptAck (tgt : Int) (a : AckRecord) (s : State) : State :=
  finishTick true
    { s with ack := { valid := true, fields := a }, ctrl := nextState s.ctrl tgt a.position a.slip }

/-- The exchange up to the write: the frame is built, then offered whole to the transport (R69 steps 3 and 4). -/
def sendFrame (poll : Bool) (t : Half) (s : State) : State :=
  let s₁ := encoderUpdate (posPayload poll t) s
  txWrite (frameBytes s₁) s₁

/-- The exchange from the read on, the write having been answered OK (R69 steps 6 to 8). An answer longer than
twelve bytes is `REFUSED_ENV` (R66, R218). -/
def receiveAck (tgt : Int) (s : State) : Host.Outcome State Fault Refusal :=
  let rx := rxAnswer s
  if Config.ackLen < rx.length then .refused .badEnvironment
  else
    match decodeAck s.params.slipMask rx with
    | none => .next (failExchange .ackDecodeFailure (rxRead s))
    | some a => .next (acceptAck tgt a (rxRead s))

/-- `exchange(poll, t, tgt)` (R178); the settle delay has no effect (R244). -/
def exchange (poll : Bool) (t : Half) (tgt : Int) (s : State) : Host.Outcome State Fault Refusal :=
  match txAnswer s with
  | .err => .next (failExchange .transportWriteFailure (sendFrame poll t s))
  | .ok => receiveAck tgt (sendFrame poll t s)

/-- TICK, arm ERROR (R174). -/
def tickError (s : State) : Host.Outcome State Fault Refusal := .next (finishTick false s)

/-- TICK, arm ENGAGED (R175): the frame is that of the intent, read once (R181). -/
def tickEngaged (s : State) : Host.Outcome State Fault Refusal :=
  if s.intent.valid then exchange s.intent.poll s.intent.target (targetInt s.intent) s
  else .fault .intentUnset

/-- TICK, arm ARMED (R176): always a poll frame; the comparison uses the intent's target. -/
def tickArmed (s : State) : Host.Outcome State Fault Refusal :=
  if s.intent.valid then exchange true 0 (targetInt s.intent) s else .fault .intentUnset

/-- TICK, arm STANDBY (R177). -/
def tickStandby (s : State) : Host.Outcome State Fault Refusal := .next (finishTick true s)

/-- TICK (R173): exactly one arm runs, chosen by STATE at the start of the tick. -/
def execTick (s : State) : Host.Outcome State Fault Refusal :=
  match s.ctrl with
  | .error => tickError s
  | .engaged => tickEngaged s
  | .armed => tickArmed s
  | .standby => tickStandby s

end Sys2Proof.Machine
end

