-- ==== Sys2Proof/Machine/WireLink.lean ====
section
/-! DEFINITION. The four wire frames of the opcode table (spec/30_encoding.md R82 to R85). They are no commands: each
is a frame that crosses the transport link, and it changes no element of R20 (log entry 9). DESIGN CHOICE. -/

namespace Sys2Proof.Machine

/-- SSN_FRAME (R82): the host transmits it if it wants to (R134); the transport is offered its eleven bytes. -/
def execSsnFrame (n c a x : Byte) (s : State) : Host.Outcome State Fault Refusal :=
  .next (linkOffer (ssnFrameBytes n c a x) s)

/-- POS_FRAME (R83): the transport is offered its twenty bytes. -/
def execPosFrame (l h a x : Byte) (s : State) : Host.Outcome State Fault Refusal :=
  .next (linkOffer (posFrameBytes l h a x) s)

/-- POLL_FRAME (R84): the transport is offered its twenty bytes. -/
def execPollFrame (s : State) : Host.Outcome State Fault Refusal :=
  .next (linkOffer pollFrameBytes s)

/-- ACK_FRAME (R85): its twelve bytes become the answer of a read to come; a tick's parser takes the fields (R151). -/
def execAckFrame (raw : AckBytes) (s : State) : Host.Outcome State Fault Refusal :=
  .next (linkDeliver (ackFrameBytes raw) s)

end Sys2Proof.Machine
end

