-- ==== Sys2Proof/Machine/Dispatch.lean ====
section
/-! DEFINITION. One arm per row of spec/opcode_table.json. -/

namespace Sys2Proof.Machine

def exec (i : Instr) (s : State) : Host.Outcome State Fault Refusal :=
  match i with
  | .chkadd seed data => Sys2Proof.Machine.execChkadd seed data s
  | .chkxor seed data => Sys2Proof.Machine.execChkxor seed data s
  | .encssn => Sys2Proof.Machine.execEncssn s
  | .encpos target => Sys2Proof.Machine.execEncpos target s
  | .encpoll => Sys2Proof.Machine.execEncpoll s
  | .decack data => Sys2Proof.Machine.execDecack data s
  | .setint target => Sys2Proof.Machine.execSetint target s
  | .setpoll => Sys2Proof.Machine.execSetpoll s
  | .tick => Sys2Proof.Machine.execTick s
  | .ssnFrame n c a x => Sys2Proof.Machine.execSsnFrame n c a x s
  | .posFrame l h a x => Sys2Proof.Machine.execPosFrame l h a x s
  | .pollFrame => Sys2Proof.Machine.execPollFrame s
  | .ackFrame raw => Sys2Proof.Machine.execAckFrame raw s

end Sys2Proof.Machine
end

