-- ==== Sys2Proof/Machine/Port.lean ====
section
/-! DEFINITION. How what is presented to the block is performed: a transaction is decoded and its instruction runs
(spec/60_exceptions.md R219), the host reads a status output (10_state.md R33), or RESET is given
(70_reset_and_hazards.md R240). -/

namespace Sys2Proof.Machine

/-- The refusal of a rejected transaction (R90, R91, R218). -/
def refusalOf : DecodeReject → Refusal
  | .reservedWord => .reservedEncoding
  | .badOperand => .badOperand
  | .notAFrame => .notAFrame

/-- A transaction is decoded, then its instruction runs (R219). -/
def runTransaction (t : Transaction) (s : State) : Host.Outcome State Fault Refusal :=
  match decode t with
  | .ok i => exec i s
  | .error r => .refused (refusalOf r)

/-- One event, performed whole (R67). -/
def runEvent (e : Event) (s : State) : Host.Outcome State Fault Refusal :=
  match e with
  | .transaction t => runTransaction t s
  | .read el => hostRead el s
  | .reset => .next (resetBlock s)

/-- What is presented first is taken and performed (R70); with nothing presented the block is idle and keeps all
state (R228). -/
def runPort (s : State) : Host.Outcome State Fault Refusal :=
  match s.inbox with
  | [] => .next s
  | e :: rest => runEvent e { s with inbox := rest }

/-- `s` with a transaction presented first. -/
def present (t : Transaction) (s : State) : State :=
  { s with inbox := .transaction t :: s.inbox }

end Sys2Proof.Machine
end

