-- ==== Sys2Proof/Machine/Step.lean ====
section
/-! DEFINITION. One step, one indivisible command (spec/20_memory.md R67, R70). -/

namespace Sys2Proof.Machine

/-- One step: what the port presents first is performed. -/
def step (s : State) : Host.Outcome State Fault Refusal := runPort s

/-- `s` with the instruction whose bits the opcode table numbers as `w` presented first, so that the next step runs
exactly it (log entries 2 and 10). -/
def State.withFetchWord (s : State) (nbits w : Nat) : State :=
  present (transactionOfTableWord nbits w) s

end Sys2Proof.Machine
end

