-- ==== Sys2Proof/Safety.lean ====
section
/-! DEFINITION. The terms that statements about the block are made in: the invariant that every step keeps, which
elements a host read may take (spec/10_state.md R33), and what a command leaves unchanged (R34). -/

namespace Sys2Proof.Safety

open Sys2Proof.Machine

/-- The invariant of the block's architectural state. -/
structure BlockInv (s : State) : Prop where
  /-- FRAME is in canonical form (R60). -/
  frameCanonical : Memory.wf s.frame = true
  /-- `FRAME_LEN` is 0, 11 or 20 (R20, R27). -/
  frameLenLegal : s.frameLen = 0 ∨ s.frameLen = 11 ∨ s.frameLen = 20
  /-- FRAME holds a byte exactly at the offsets below `FRAME_LEN` (R27). -/
  frameHeld : ∀ i, (Memory.read s.frame i).isSome = decide (i < s.frameLen.toNat)
  /-- A frame starts with the sync bytes and its payload length (R80, R81). -/
  frameHead : s.frameLen ≠ 0 →
    Memory.read s.frame 0 = some 0xD5 ∧ Memory.read s.frame 1 = some 0x82 ∧
      Memory.read s.frame 2 = some (BitVec.ofNat 8 (s.frameLen.toNat - 5))
  /-- The accumulators hold the frame's checksum bytes (R28). -/
  accumulators : s.frameLen ≠ 0 →
    Memory.read s.frame (s.frameLen.toNat - 2) = some s.accAdd ∧
      Memory.read s.frame (s.frameLen.toNat - 1) = some s.accXor
  /-- A poll intent has target 0 (R23). -/
  pollTarget : s.intent.valid = true → s.intent.poll = true → s.intent.target = 0
  /-- `ERRCAUSE` is NONE, ACK_DECODE_FAILURE or TRANSPORT_WRITE_FAILURE (R26, R211). -/
  causeLegal : s.errCause = 0 ∨ s.errCause = 1 ∨ s.errCause = 2
  /-- A cause is recorded exactly in ERROR (R26, R222). -/
  causeInError : s.ctrl = .error ↔ s.errCause ≠ 0
  /-- In ERROR the last tick stopped and no Ack is held (R180, R220). -/
  errorStopped : s.ctrl = .error → s.tickResult = ⟨true, false⟩ ∧ s.ack.valid = false
  /-- Out of ERROR a completed tick continued (R183 c). -/
  othersContinue : s.ctrl ≠ .error → s.tickResult.valid = true → s.tickResult.cont = true
  /-- ENGAGED and STANDBY are entered only by a tick that decoded an Ack (R178, R179). -/
  movedByAck : s.ctrl = .engaged ∨ s.ctrl = .standby →
    s.tickResult.valid = true ∧ s.ack.valid = true ∧ s.intent.valid = true
  /-- STANDBY is held by a slip value of exactly 1 (R179). -/
  standbySlip : s.ctrl = .standby → s.ack.fields.slip = 1
  /-- With `SLIP_MASK = 0x02` a held slip value is 0 or 2 (R86, R154). -/
  slipUnderMask02 : s.params.slipMask = .mask02 → s.ack.valid = true →
    s.ack.fields.slip = 0 ∨ s.ack.fields.slip = 2
  /-- A held Ack's engaged bit is bit 0 of its alarm field: both are read from the status byte (R86). -/
  engagedIsAlarmBit : s.ack.valid = true → s.ack.fields.engaged = s.ack.fields.alarm.getLsbD 0

/-- The valid condition of a host read (R33). -/
def readValid : Element → State → Bool
  | .state, _ => true
  | .ackValid, _ => true
  | .ackEngaged, s => s.ack.valid
  | .ackSlip, s => s.ack.valid
  | .ackAlarm, s => s.ack.valid
  | .ackPosition, s => s.ack.valid
  | .ackVoltage, s => s.ack.valid
  | .ackTorque, s => s.ack.valid
  | .tickValid, _ => true
  | .tickCont, s => s.tickResult.valid
  | .errCause, _ => true
  | .frameLen, _ => true
  | .frameByte i, s => decide (i < s.frameLen.toNat)
  | .accAdd, s => s.frameLen != 0
  | .accXor, s => s.frameLen != 0

/-- `s` with the encoder's registers of `t` (R27, R28). -/
def withEncoder (t s : State) : State :=
  { s with frame := t.frame, frameLen := t.frameLen, accAdd := t.accAdd, accXor := t.accXor }

/-- The encoder's registers hold exactly the frame `f`: its bytes and no byte beyond them, its length, and its two
checksum bytes in the accumulators (R27, R28, R133). -/
def holdsFrame (f : List Byte) (t : State) : Prop :=
  t.frameLen.toNat = f.length ∧ (∀ i, Memory.read t.frame i = f[i]?) ∧
    f[f.length - 2]? = some t.accAdd ∧ f[f.length - 1]? = some t.accXor

/-- The link after the block offered the frame `f` and made `n` reads (R65, R66). -/
def linkAfter (l : Link) (f : List Byte) (n : Nat) : Link :=
  { frames := l.frames ++ [f]
    writes := l.writes + 1
    reads := l.reads + n
    txQueue := l.txQueue.tail
    rxQueue := l.rxQueue.drop n }

/-- The fields of an Ack as numbers of the raw bytes (R86, R151). -/
def ackFieldsOf (m : SlipMask) (raw : List Byte) (a : AckRecord) : Prop :=
  (a.engaged = true ↔ (byteAt raw 5).toNat % 2 = 1) ∧
  a.slip.toNat = (match m with
    | .mask02 => 2 * ((byteAt raw 5).toNat / 2 % 2)
    | .mask03 => (byteAt raw 5).toNat % 4) ∧
  a.alarm.toNat = (byteAt raw 5).toNat % 4 ∧
  a.position.toNat = (byteAt raw 6).toNat + 256 * (byteAt raw 7).toNat ∧
  a.voltage = byteAt raw 8 ∧
  a.torque = byteAt raw 9

/-- The integer distance of an acknowledged position from an intent's target, the sentinel being -1 (R172, R179). -/
def ackDistance (a : AckRecord) (i : Intent) : Int :=
  |(a.position.toNat : Int) - (if i.poll then -1 else (i.target.toNat : Int))|

/-- No `RESET` is among what is presented to the block. -/
def noReset (s : State) : Prop := Event.reset ∉ s.inbox

/-- The block right after reset, built with given parameters, with given events presented to it and given answers
of the transport to come. -/
def resetWith (p : Params) (events : List Event) (tx : List TxAnswer) (rx : List (List Byte)) : State :=
  { State.reset with
    params := p
    inbox := events
    link := { State.reset.link with txQueue := tx, rxQueue := rx } }

/-- The low byte of a target, as a number of it (R62): the target modulo 256. -/
def targetLow (t : Half) : Byte := BitVec.ofNat 8 (t.toNat % 256)

/-- The high byte of a target, as a number of it (R62): the target divided by 256. -/
def targetHigh (t : Half) : Byte := BitVec.ofNat 8 (t.toNat / 256)

/-- The frame that the exchange of a tick sends, written out byte by byte: the poll frame (R84), or the position
frame of a target, its bytes little-endian at offsets 7 and 8 (R62, R83), with the checksums of R138. -/
def tickFrame (poll : Bool) (t : Half) : List Byte :=
  if poll then
    [0xD5, 0x82, 0x0F, 0x01, 0x00, 0x01, 0x00, 0x00, 0x00, 0, 0, 0, 0, 0, 0, 0, 0, 0, 0xAC, 0x55]
  else
    [0xD5, 0x82, 0x0F, 0x01, 0x00, 0x01, 0x71, targetLow t, targetHigh t, 0, 0, 0, 0, 0, 0, 0, 0, 0,
      0x1D + targetLow t + targetHigh t, 0x24 ^^^ targetLow t ^^^ targetHigh t]

/-- The frame that a TICK in ENGAGED or ARMED sends: the poll frame in ARMED, that of the intent in ENGAGED
(R175, R176). -/
def sentFrame (s : State) : List Byte :=
  tickFrame (s.ctrl == .armed || s.intent.poll) s.intent.target

/-- STATE is one of the two that exchange a frame (R175, R176). -/
def exchanges (s : State) : Prop := s.ctrl = .engaged ∨ s.ctrl = .armed

/-- `OP = CMD[31:28]` (R87). -/
def opField (cmd : Word) : Nat := (cmd.extractLsb' 28 4).toNat
/-- `RSV = CMD[27:17]` (R87). -/
def rsvField (cmd : Word) : BitVec 11 := cmd.extractLsb' 17 11
/-- `P = CMD[16]` (R87). -/
def pField (cmd : Word) : BitVec 1 := cmd.extractLsb' 16 1
/-- `T = CMD[15:0]` (R87). -/
def tField (cmd : Word) : Half := cmd.extractLsb' 0 16

/-- The reserved command words by their fields (R90). -/
abbrev reservedWord (cmd : Word) : Prop :=
  opField cmd = 0 ∨ 8 ≤ opField cmd ∨
  rsvField cmd ≠ 0 ∨
  (pField cmd = 1 ∧ opField cmd ∈ [1, 2, 3, 5, 7]) ∨
  (pField cmd = 1 ∧ tField cmd ≠ 0 ∧ opField cmd ∈ [4, 6]) ∨
  (tField cmd ≠ 0 ∧ opField cmd ∈ [3, 5, 7]) ∨
  ((tField cmd).extractLsb' 8 8 ≠ 0 ∧ opField cmd ∈ [1, 2])

/-- The three operation codes whose commands read `DATA` (R91): CHKADD, CHKXOR, DECACK. -/
abbrev readsData (cmd : Word) : Prop := opField cmd ∈ [1, 2, 5]

end Sys2Proof.Safety
end

