-- ==== Sys2Proof/Certificates/Slice0/Obligations.lean ====
section
/-! DEFINITION. The statements about the block, for the provers; each says which rule of spec/ it rests on. -/

open Sys2Proof Sys2Proof.Machine Sys2Proof.Safety

/-! ## Reset -/

/-- What reset leaves (R38, R240): the values the spec gives, no byte in FRAME, and a host read of every element
without a value faults. -/
def Obligations.ResetLeavesTheGivenValues : Prop :=
  State.reset.ctrl = .armed ∧ State.reset.intent.valid = false ∧ State.reset.ack.valid = false ∧
  State.reset.tickResult.valid = false ∧ State.reset.errCause = 0 ∧ State.reset.frameLen = 0 ∧
  (∀ i, Memory.read State.reset.frame i = none) ∧
  (∀ e, readValid e State.reset = false → hostRead e State.reset = .fault .readInvalid)

/-- The RESET input in any state (R240), which touches neither the parameters nor the transport (R241). -/
def Obligations.ResetInputRestoresTheBlock : Prop :=
  ∀ s rest, s.inbox = .reset :: rest →
    ∃ t, step s = .next t ∧ t.ctrl = .armed ∧ t.intent.valid = false ∧ t.ack.valid = false ∧
      t.tickResult.valid = false ∧ t.errCause = 0 ∧ t.frameLen = 0 ∧
      (∀ i, Memory.read t.frame i = none) ∧ t.params = s.params ∧ t.link = s.link ∧ t.inbox = rest

/-- The invariant holds right after reset, whatever the parameters and whatever is presented. -/
def Obligations.ResetMeetsTheInvariant : Prop :=
  BlockInv State.reset ∧ ∀ p events tx rx, BlockInv (resetWith p events tx rx)

/-! ## The whole machine -/

/-- Every step, from any state that meets the invariant, keeps it. -/
def Obligations.StepKeepsTheInvariant : Prop :=
  ∀ s t, BlockInv s → step s = .next t → BlockInv t

/-- R183 (d): from reset with `SLIP_MASK = 0x02` nothing the host and the transport do reaches STANDBY. -/
def Obligations.StandbyIsUnreachableUnderMask02 : Prop :=
  ∀ n events tx rx k t,
    Host.Core.run core k (resetWith ⟨n, .mask02⟩ events tx rx) = .next t → State.ctrl t ≠ .standby

/-- R183 (a): without RESET a run that is in ERROR stays in it, keeps its cause, and every tick in it stops. -/
def Obligations.ErrorIsAbsorbing : Prop :=
  ∀ k (s t : State), s.ctrl = .error → noReset s → Host.Core.run core k s = .next t →
    t.ctrl = .error ∧ t.errCause = s.errCause ∧
      (t.tickResult = s.tickResult ∨ t.tickResult = ⟨true, false⟩)

/-- R183 (b): the same of STANDBY, where every tick continues. -/
def Obligations.StandbyIsAbsorbing : Prop :=
  ∀ k (s t : State), s.ctrl = .standby → noReset s → Host.Core.run core k s = .next t →
    t.ctrl = .standby ∧ t.errCause = s.errCause ∧
      (t.tickResult = s.tickResult ∨ t.tickResult = ⟨true, true⟩)

/-- R31: no step, RESET among them, changes the construction parameters. -/
def Obligations.ParametersNeverChange : Prop :=
  ∀ s t, step s = .next t → t.params = s.params

/-- R225, R21: only TICK and reset move STATE; only SETINT, SETPOLL and reset move INTENT. -/
def Obligations.OnlyTheOwnersMoveStateAndIntent : Prop :=
  ∀ s t, step s = .next t →
    (t.ctrl ≠ s.ctrl → s.inbox.head? = some .reset ∨
      ∃ x, s.inbox.head? = some (.transaction x) ∧ decode x = .ok .tick) ∧
    (t.intent ≠ s.intent → s.inbox.head? = some .reset ∨
      ∃ x, s.inbox.head? = some (.transaction x) ∧
        (decode x = .ok .setpoll ∨ ∃ v, decode x = .ok (.setint v)))

/-- R36, R183 (f): a step makes a TxWrite or an RxRead, counted in the model's own link log (log entry 4), only by
TICK in ENGAGED or ARMED. -/
def Obligations.OnlyTickUsesTheTransport : Prop :=
  ∀ s t, step s = .next t → t.link.writes ≠ s.link.writes ∨ t.link.reads ≠ s.link.reads →
    exchanges s ∧ ∃ x, s.inbox.head? = some (.transaction x) ∧ decode x = .ok .tick

/-- A step takes the first of what is presented away and leaves the rest in its order, nothing added; that what the
host presents stands in such a queue is the model's choice (log entry 2). What the step does with what it took is
StepRunsTheDecodedInstruction, HostReadsFollowTheValidConditions and ResetInputRestoresTheBlock. -/
def Obligations.StepTakesOneEvent : Prop :=
  ∀ s t, step s = .next t → t.inbox = s.inbox.tail

/-- The write matrix (R34): what each command may change, RESULT apart. The last clause, that the four wire frames
change the link alone, is the model's choice (log entry 9). -/
def Obligations.InstructionsWriteOnlyTheirElements : Prop :=
  ∀ s t : State,
    (∀ seed data, exec (.chkadd seed data) s = .next t ∨ exec (.chkxor seed data) s = .next t ∨
      exec (.decack data) s = .next t → t = { s with result := t.result }) ∧
    (∀ target, exec .encssn s = .next t ∨ exec (.encpos target) s = .next t ∨ exec .encpoll s = .next t →
      t = { withEncoder t s with result := t.result }) ∧
    (∀ target, exec (.setint target) s = .next t ∨ exec .setpoll s = .next t →
      t = { s with intent := t.intent, result := t.result }) ∧
    (exec .tick s = .next t → s.ctrl = .error ∨ s.ctrl = .standby →
      t = { s with tickResult := t.tickResult, result := t.result }) ∧
    (exec .tick s = .next t → exchanges s →
      t = { withEncoder t s with
            ctrl := t.ctrl, ack := t.ack, tickResult := t.tickResult, errCause := t.errCause,
            result := t.result, link := t.link } ∧
      (t.ctrl ≠ .error → t.errCause = s.errCause)) ∧
    (∀ n c a x raw, exec (.ssnFrame n c a x) s = .next t ∨ exec (.posFrame n c a x) s = .next t ∨
      exec .pollFrame s = .next t ∨ exec (.ackFrame raw) s = .next t → t = { s with link := t.link })

/-- R228: with nothing presented the block is idle and keeps all state. -/
def Obligations.IdleBlockKeepsItsState : Prop :=
  ∀ s : State, s.inbox = [] → step s = .next s

/-! ## Checksums -/

/-- R115: both closed forms, and both checksums do not depend on the order of the bytes. -/
def Obligations.ChecksumClosedForms : Prop :=
  ∀ (l : List Byte) (s : Byte),
    (sum8 l s).toNat = (s.toNat + (l.map BitVec.toNat).sum) % 256 ∧
    xor8 l s = s ^^^ l.foldr (· ^^^ ·) 0 ∧
    ∀ l', l.Perm l' → sum8 l' s = sum8 l s ∧ xor8 l' s = xor8 l s

/-- R116: the XOR checksum applied twice with one seed gives the byte back. -/
def Obligations.XorTwiceReturnsTheByte : Prop :=
  ∀ x s : Byte, xor8 [xor8 [x] s] s = s ^^^ (s ^^^ x) ∧ xor8 [xor8 [x] s] s = x

/-- CHKADD completes on every DATA the port carries; RESULT is the sum modulo 256 and nothing else changes
(R113, R115). -/
def Obligations.ChkaddAnswersTheSum : Prop :=
  ∀ seed (data : List Byte) (s : State), data.length ≤ 255 →
    ∃ b : Byte, exec (.chkadd seed data) s = .next { s with result := .byte b } ∧
      b.toNat = (seed.toNat + (data.map BitVec.toNat).sum) % 256

/-- CHKXOR completes on every DATA the port carries; RESULT is the exclusive OR of seed and bytes and nothing else
changes (R114, R115). -/
def Obligations.ChkxorAnswersTheExclusiveOr : Prop :=
  ∀ seed (data : List Byte) (s : State), data.length ≤ 255 →
    exec (.chkxor seed data) s = .next { s with result := .byte (seed ^^^ data.foldr (· ^^^ ·) 0) }

/-- The accumulators of the dual checksum unit end at the two checksums (R110 to R112, R133). -/
def Obligations.AccumulatorsEndAtTheChecksums : Prop :=
  ∀ l : List Byte, accumulate l = (sum8 l 0xAA, xor8 l 0x55)

/-- R91 for the instruction terms: a DATA over 255 bytes is refused by each command that takes data. -/
def Obligations.OverlongDataIsRefused : Prop :=
  ∀ seed (data : List Byte) (s : State), 255 < data.length →
    exec (.chkadd seed data) s = .refused .badOperand ∧ exec (.chkxor seed data) s = .refused .badOperand ∧
    exec (.decack data) s = .refused .badOperand

/-! ## The encoder -/

/-- ENCSSN completes in every state (R134): the registers hold the frame of `SERVO_NUMBER` with checksums A8 55
(R137), RESULT carries it, and nothing else changes. -/
def Obligations.EncssnBuildsItsFrame : Prop :=
  ∀ s : State, ∃ t,
    exec .encssn s = .next t ∧
    holdsFrame (ssnFrameBytes s.params.servoNumber (s.params.servoNumber ^^^ 0xFF) 0xA8 0x55) t ∧
    t = { withEncoder t s with
          result := .frame 11 (ssnFrameBytes s.params.servoNumber (s.params.servoNumber ^^^ 0xFF) 0xA8 0x55) }

/-- ENCPOS completes in every state and for every target (R135): FRAME[7] is the target modulo 256 and FRAME[8] the
target divided by 256 (R62, R83), with the checksums of R138. -/
def Obligations.EncposBuildsItsFrame : Prop :=
  ∀ (target : Half) (s : State), ∃ t,
    exec (.encpos target) s = .next t ∧ holdsFrame (tickFrame false target) t ∧
    (Memory.read t.frame 7).map BitVec.toNat = some (target.toNat % 256) ∧
    (Memory.read t.frame 8).map BitVec.toNat = some (target.toNat / 256) ∧
    t = { withEncoder t s with result := .frame 20 (tickFrame false target) }

/-- ENCPOLL completes in every state; its frame is the constant of R84, whatever the state (R136). -/
def Obligations.EncpollBuildsTheConstantFrame : Prop :=
  ∀ s : State, ∃ t,
    exec .encpoll s = .next t ∧ holdsFrame pollFrameBytes t ∧ t.accAdd = 0xAC ∧ t.accXor = 0x55 ∧
    t = { withEncoder t s with result := .frame 20 pollFrameBytes }

/-- R137: every Set-Servo-Number frame ends in A8 55. -/
def Obligations.ServoNumberFramesEndAlike : Prop :=
  ∀ n : Byte, makeFrame (ssnPayload n) = ssnFrameBytes n (n ^^^ 0xFF) 0xA8 0x55

/-- R138: the checksums of a position frame from its target's bytes, taken as numbers of the target (R62), the
constant poll frame, and two targets with one sum and one exclusive OR of their bytes have the same checksums, 1 and
256 among them. -/
def Obligations.PositionFrameChecksums : Prop :=
  (∀ t : Half,
    (byteAt (makeFrame (posPayload false t)) 7).toNat = t.toNat % 256 ∧
    (byteAt (makeFrame (posPayload false t)) 8).toNat = t.toNat / 256 ∧
    makeFrame (posPayload false t) = tickFrame false t ∧
    (makeFrame (posPayload false t)).drop 18 =
      [0x1D + targetLow t + targetHigh t, 0x24 ^^^ targetLow t ^^^ targetHigh t]) ∧
  makeFrame (posPayload true 0) = tickFrame true 0 ∧
  (makeFrame (posPayload true 0)).drop 18 = [0xAC, 0x55] ∧
  (∀ t u : Half, targetLow t + targetHigh t = targetLow u + targetHigh u →
    targetLow t ^^^ targetHigh t = targetLow u ^^^ targetHigh u →
    (makeFrame (posPayload false t)).drop 18 = (makeFrame (posPayload false u)).drop 18) ∧
  (makeFrame (posPayload false 1)).drop 18 = (makeFrame (posPayload false 256)).drop 18

/-- The frames the encoder builds are well-formed frames of the opcode table, and byte 2 tells their length
(R80 to R84); a target's bytes are the numbers R62 says. -/
def Obligations.BuiltFramesAreTableFrames : Prop :=
  (∀ n : Byte, ∃ i, decode (.wire (makeFrame (ssnPayload n))) = .ok i ∧ i.wellFormed = true ∧
    i = .ssnFrame n (n ^^^ 0xFF) 0xA8 0x55) ∧
  (∀ t : Half, ∃ i, decode (.wire (makeFrame (posPayload false t))) = .ok i ∧ i.wellFormed = true ∧
    i = .posFrame (targetLow t) (targetHigh t) (0x1D + targetLow t + targetHigh t)
      (0x24 ^^^ targetLow t ^^^ targetHigh t)) ∧
  decode (.wire (makeFrame (posPayload true 0))) = .ok .pollFrame ∧
  (∀ n : Byte, (byteAt (makeFrame (ssnPayload n)) 2).toNat + 5 = (makeFrame (ssnPayload n)).length) ∧
  (∀ poll t, (byteAt (makeFrame (posPayload poll t)) 2).toNat + 5 = (makeFrame (posPayload poll t)).length)

/-! ## The parser -/

/-- DECACK completes on every DATA the port carries: under twelve bytes RESULT says failure, from twelve on it
carries the fields (R150, R151, R153); nothing else changes. -/
def Obligations.DecackAnswersTheFields : Prop :=
  ∀ (data : List Byte) (s : State), data.length ≤ 255 →
    (data.length < 12 → exec (.decack data) s = .next { s with result := .ack none }) ∧
    (12 ≤ data.length → ∃ a, exec (.decack data) s = .next { s with result := .ack (some a) } ∧
      ackFieldsOf s.params.slipMask data a)

/-- R154: the laws of the parser. -/
def Obligations.ParserLaws : Prop :=
  ∀ (m : SlipMask) (raw : List Byte),
    (raw.length < 12 → decodeAck m raw = none) ∧
    (12 ≤ raw.length → ∃ a, decodeAck m raw = some a ∧
      a.position.toNat = (byteAt raw 6).toNat + 256 * (byteAt raw 7).toNat ∧
      (m = .mask02 → (a.slip = 0 ∨ a.slip = 2) ∧ a.slip ≠ 1) ∧
      (m = .mask03 → (a.slip = 1 ↔ (byteAt raw 5).toNat % 4 = 1) ∧
        (a.slip = 1 ↔ a.alarm = 1 ∧ a.engaged = true)))

/-- R152: only the length is validated, and two byte lists of twelve bytes or more that agree at offsets 6 to 9 and
in the two low bits of the status byte, offset 5, decode alike. -/
def Obligations.ParserChecksOnlyTheLength : Prop :=
  ∀ (m : SlipMask) (raw raw' : List Byte),
    ((decodeAck m raw).isSome = true ↔ 12 ≤ raw.length) ∧
    (12 ≤ raw.length → 12 ≤ raw'.length → (∀ i, 6 ≤ i → i ≤ 9 → raw[i]? = raw'[i]?) →
      (byteAt raw 5).toNat % 4 = (byteAt raw' 5).toNat % 4 → decodeAck m raw = decodeAck m raw')

/-! ## The supervisor -/

/-- SETINT and SETPOLL complete in every state, write INTENT alone, and give the integer target of R172
(R170, R171). -/
def Obligations.IntentCommandsWriteTheIntent : Prop :=
  ∀ (v : Half) (s : State),
    exec (.setint v) s = .next { s with intent := ⟨true, false, v⟩, result := .nothing } ∧
    exec .setpoll s = .next { s with intent := ⟨true, true, 0⟩, result := .nothing } ∧
    targetInt ⟨true, false, v⟩ = (v.toNat : Int) ∧ targetInt ⟨true, true, 0⟩ = -1

/-- R174: a TICK in ERROR stops, and changes nothing but `TICK_RESULT` and the result port. -/
def Obligations.TickInErrorStops : Prop :=
  ∀ s : State, s.ctrl = .error →
    exec .tick s = .next { s with tickResult := ⟨true, false⟩, result := .cont false }

/-- R177: a TICK in STANDBY continues, and changes nothing but `TICK_RESULT` and the result port. -/
def Obligations.TickInStandbyContinues : Prop :=
  ∀ s : State, s.ctrl = .standby →
    exec .tick s = .next { s with tickResult := ⟨true, true⟩, result := .cont true }

/-- A TICK in ENGAGED completes when an intent is held, the write is answered OK and the read with twelve bytes
(R175, R178, R179): the intent's frame is sent, ACK holds the decoded fields, slip 1 moves to STANDBY, else a
distance under 5 moves to ARMED; nothing else changes. -/
def Obligations.TickInEngagedExchanges : Prop :=
  ∀ s : State, s.ctrl = .engaged → s.intent.valid = true → txAnswer s = .ok → (rxAnswer s).length = 12 →
    ∃ t a, exec .tick s = .next t ∧ ackFieldsOf s.params.slipMask (rxAnswer s) a ∧
      holdsFrame (tickFrame s.intent.poll s.intent.target) t ∧
      t = { withEncoder t s with
            ctrl := if a.slip = 1 then .standby else if ackDistance a s.intent < 5 then .armed else .engaged
            ack := ⟨true, a⟩
            tickResult := ⟨true, true⟩
            result := .cont true
            link := linkAfter s.link (tickFrame s.intent.poll s.intent.target) 1 }

/-- A TICK in ARMED completes in the same way (R176, R178, R179): the poll frame is sent whatever the intent, and
a distance of 5 or more from the intent's target moves to ENGAGED. -/
def Obligations.TickInArmedExchanges : Prop :=
  ∀ s : State, s.ctrl = .armed → s.intent.valid = true → txAnswer s = .ok → (rxAnswer s).length = 12 →
    ∃ t a, exec .tick s = .next t ∧ ackFieldsOf s.params.slipMask (rxAnswer s) a ∧
      holdsFrame pollFrameBytes t ∧
      t = { withEncoder t s with
            ctrl := if a.slip = 1 then .standby else if 5 ≤ ackDistance a s.intent then .engaged else .armed
            ack := ⟨true, a⟩
            tickResult := ⟨true, true⟩
            result := .cont true
            link := linkAfter s.link pollFrameBytes 1 }

/-- R213: a write answered ERR makes no read, invalidates ACK and enters ERROR with cause 2. -/
def Obligations.WriteFailureEntersError : Prop :=
  ∀ s : State, exchanges s → s.intent.valid = true → txAnswer s = .err →
    ∃ t, exec .tick s = .next t ∧ t.ack.valid = false ∧ holdsFrame (sentFrame s) t ∧
      t = { withEncoder t s with
            ctrl := .error
            errCause := 2
            ack := t.ack
            tickResult := ⟨true, false⟩
            result := .cont false
            link := linkAfter s.link (sentFrame s) 0 }

/-- R212: a read answer under twelve bytes invalidates ACK and enters ERROR with cause 1; the frame of the tick
stays in FRAME. -/
def Obligations.DecodeFailureEntersError : Prop :=
  ∀ s : State, exchanges s → s.intent.valid = true → txAnswer s = .ok → (rxAnswer s).length < 12 →
    ∃ t, exec .tick s = .next t ∧ t.ack.valid = false ∧ holdsFrame (sentFrame s) t ∧
      t = { withEncoder t s with
            ctrl := .error
            errCause := 1
            ack := t.ack
            tickResult := ⟨true, false⟩
            result := .cont false
            link := linkAfter s.link (sentFrame s) 1 }

/-- R66, R218: a read answer of more than twelve bytes is refused. -/
def Obligations.OverlongReadAnswerIsRefused : Prop :=
  ∀ s : State, exchanges s → s.intent.valid = true → txAnswer s = .ok → 12 < (rxAnswer s).length →
    exec .tick s = .refused .badEnvironment

/-- R217: the two model faults and when they are raised. -/
def Obligations.ModelFaults : Prop :=
  (∀ s : State, exchanges s → s.intent.valid = false → exec .tick s = .fault .intentUnset) ∧
  (∀ (s : State) e rest, s.inbox = .read e :: rest → readValid e s = false → step s = .fault .readInvalid)

/-- R179: the transition table, with distances in integer arithmetic. -/
def Obligations.TransitionTable : Prop :=
  ∀ (tgt : Int) (pos : Half) (slip : BitVec 2), -1 ≤ tgt → tgt ≤ 65535 →
    |(pos.toNat : Int) - tgt| ≤ 65536 ∧
    (slip = 1 → nextState .engaged tgt pos slip = .standby ∧ nextState .armed tgt pos slip = .standby) ∧
    (slip ≠ 1 → |(pos.toNat : Int) - tgt| < 5 →
      nextState .engaged tgt pos slip = .armed ∧ nextState .armed tgt pos slip = .armed) ∧
    (slip ≠ 1 → 5 ≤ |(pos.toNat : Int) - tgt| →
      nextState .engaged tgt pos slip = .engaged ∧ nextState .armed tgt pos slip = .engaged)

/-- R183 (c), R173: every TICK that completes writes both fields of `TICK_RESULT`, answers the same Boolean, and
answers stop exactly when it ends in ERROR. -/
def Obligations.TickStopsExactlyInError : Prop :=
  ∀ s t : State, exec .tick s = .next t →
    t.tickResult.valid = true ∧ t.result = .cont t.tickResult.cont ∧
      (t.tickResult.cont = false ↔ t.ctrl = .error)

/-- R183 (e): under `SLIP_MASK = 0x03` an Ack whose status bits 1:0 are 01 moves to STANDBY. -/
def Obligations.SlipOneMovesToStandby : Prop :=
  ∀ s : State, s.params.slipMask = .mask03 → exchanges s → s.intent.valid = true → txAnswer s = .ok →
    (rxAnswer s).length = 12 → (byteAt (rxAnswer s) 5).toNat % 4 = 1 →
    ∃ t, exec .tick s = .next t ∧ t.ctrl = .standby ∧ t.tickResult = ⟨true, true⟩

/-- R183 (f): a TICK in ENGAGED or ARMED sends exactly one 20-byte frame and reads at most once; in ERROR and
STANDBY it does neither. What was sent and read stands in the model's own link log (log entry 4). -/
def Obligations.TickSendsOneFrameAndReadsAtMostOnce : Prop :=
  ∀ s t : State, exec .tick s = .next t →
    (exchanges s → (∃ f, f.length = 20 ∧ t.link.frames = s.link.frames ++ [f]) ∧
      t.link.writes = s.link.writes + 1 ∧
      (t.link.reads = s.link.reads ∨ t.link.reads = s.link.reads + 1)) ∧
    (s.ctrl = .error ∨ s.ctrl = .standby → t.link = s.link)

/-- R152, R245: the bytes of an acknowledgement outside offsets 5 to 9 have no effect on a TICK. Two states that
differ in them alone go to states that agree in everything but the listed read answers; and there, where the TICK
read, both are left with the same rest, and where it did not, each still lists its own answer first (the lists are
the model's own, log entry 3). -/
def Obligations.IgnoredAckBytesHaveNoEffect : Prop :=
  ∀ (s t : State) (raw raw' : List Byte) (rest : List (List Byte)), raw.length = 12 → raw'.length = 12 →
    (∀ i, 5 ≤ i → i ≤ 9 → raw[i]? = raw'[i]?) →
    exec .tick { s with link := { s.link with rxQueue := raw :: rest } } = .next t →
    ∃ t', exec .tick { s with link := { s.link with rxQueue := raw' :: rest } } = .next t' ∧
      { t' with link := { t'.link with rxQueue := t.link.rxQueue } } = t ∧
      (t.link.reads ≠ s.link.reads → t.link.rxQueue = rest ∧ t'.link.rxQueue = rest) ∧
      (t.link.reads = s.link.reads → t.link.rxQueue = raw :: rest ∧ t'.link.rxQueue = raw' :: rest)

/-! ## The host's reads -/

/-- R33: in every state that meets the invariant a host read answers exactly where the element's valid condition
holds, and is `READ_INVALID` elsewhere; the queue and the kept answer are the model's own (log entries 2 and 5). -/
def Obligations.HostReadsFollowTheValidConditions : Prop :=
  ∀ (s : State) e rest, BlockInv s → s.inbox = .read e :: rest →
    (readValid e s = true → ∃ v, step s = .next { s with inbox := rest, readout := some v }) ∧
    (readValid e s = false → step s = .fault .readInvalid)

/-- What a host read answers, element by element: the element itself where R33 lets it be read, STATE by its code
(R22). That the answer is zero-extended to 16 bits and kept as the last one read out is the model's choice (log
entries 19 and 5). -/
def Obligations.HostReadAnswers : Prop :=
  ∀ s : State,
    hostRead .state s = .next { s with readout := some (match s.ctrl with
      | .error => 0 | .engaged => 1 | .armed => 2 | .standby => 3) } ∧
    hostRead .errCause s = .next { s with readout := some (s.errCause.setWidth 16) } ∧
    hostRead .frameLen s = .next { s with readout := some (s.frameLen.setWidth 16) } ∧
    hostRead .ackValid s = .next { s with readout := some (if s.ack.valid then 1 else 0) } ∧
    hostRead .tickValid s = .next { s with readout := some (if s.tickResult.valid then 1 else 0) } ∧
    (s.tickResult.valid = true →
      hostRead .tickCont s = .next { s with readout := some (if s.tickResult.cont then 1 else 0) }) ∧
    (s.ack.valid = true →
      hostRead .ackEngaged s = .next { s with readout := some (if s.ack.fields.engaged then 1 else 0) } ∧
      hostRead .ackSlip s = .next { s with readout := some (s.ack.fields.slip.setWidth 16) } ∧
      hostRead .ackAlarm s = .next { s with readout := some (s.ack.fields.alarm.setWidth 16) } ∧
      hostRead .ackPosition s = .next { s with readout := some s.ack.fields.position } ∧
      hostRead .ackVoltage s = .next { s with readout := some (s.ack.fields.voltage.setWidth 16) } ∧
      hostRead .ackTorque s = .next { s with readout := some (s.ack.fields.torque.setWidth 16) }) ∧
    (s.frameLen ≠ 0 →
      hostRead .accAdd s = .next { s with readout := some (s.accAdd.setWidth 16) } ∧
      hostRead .accXor s = .next { s with readout := some (s.accXor.setWidth 16) }) ∧
    (∀ i b, i < s.frameLen.toNat → Memory.read s.frame i = some b →
      hostRead (.frameByte i) s = .next { s with readout := some (b.setWidth 16) })

/-! ## Encodings -/

/-- R90: the reserved words are exactly those that match no row, and each is refused whatever its DATA. -/
def Obligations.ReservedWordsAreRefused : Prop :=
  (∀ cmd : Word, reservedWord cmd ↔ ∀ r ∈ opRows, cmd &&& r.mask ≠ r.pattern) ∧
  (∀ cmd data (s : State) rest, s.inbox = .transaction (.command cmd data) :: rest →
    (reservedWord cmd ↔ step s = .refused .reservedEncoding))

/-- R88: no two rows of the opcode map match the same word. -/
def Obligations.OneRowPerWord : Prop :=
  ∀ cmd : Word, ∀ r ∈ opRows, ∀ r' ∈ opRows,
    cmd &&& r.mask = r.pattern → cmd &&& r'.mask = r'.pattern → r = r'

/-- R91: what each command word admits on the data port. -/
def Obligations.DataPortUse : Prop :=
  ∀ cmd (data : List Byte) (s : State) rest, ¬ reservedWord cmd →
    s.inbox = .transaction (.command cmd data) :: rest →
    (readsData cmd → 255 < data.length → step s = .refused .badOperand) ∧
    (readsData cmd → data.length ≤ 255 → ∃ i, decode (.command cmd data) = .ok i) ∧
    (¬ readsData cmd → data ≠ [] → step s = .refused .badOperand) ∧
    (¬ readsData cmd → data = [] → ∃ i, decode (.command cmd data) = .ok i)

/-- Decoding the encoding of every well-formed instruction gives it back, every operand at every value (R82 to R89). -/
def Obligations.DecodeOfEncodeIsIdentity : Prop :=
  ∀ i : Instr, i.wellFormed = true → decode (encode i) = .ok i

/-- What decodes to an instruction is that instruction's encoding, bit for bit: no word has two meanings and no bit
is dropped (R82 to R90). -/
def Obligations.EncodeOfDecodeIsIdentity : Prop :=
  ∀ x i, decode x = .ok i → encode i = x

/-- Words and frames of the spec's vectors and what they decode to (95_test_vectors.md). -/
def Obligations.VectorsDecode : Prop :=
  decodeTableWord 32 0x200000AA = some (.chkxor 0xAA []) ∧
  decodeTableWord 32 0x4000012C = some (.encpos 300) ∧
  decodeTableWord 32 0x4000FFFF = some (.encpos 65535) ∧
  decodeTableWord 32 0x40010000 = some .encpoll ∧
  decodeTableWord 32 0x60000064 = some (.setint 100) ∧
  decodeTableWord 32 0x60010005 = none ∧
  decodeTableWord 32 0x70000000 = some .tick ∧
  decodeTableWord 88 0xD582060000AA5501FEA855 = some (.ssnFrame 0x01 0xFE 0xA8 0x55) ∧
  decodeTableWord 160 0xD5820F010001712C010000000000000000004A09 = some (.posFrame 0x2C 0x01 0x4A 0x09)

/-- The assembler's pseudo-commands (R95). -/
def Obligations.AssemblerTargets : Prop :=
  assemble (.encpos (-1)) = .ok .encpoll ∧ assemble (.setint (-1)) = .ok .setpoll ∧
  (∀ v : Int, v < -1 ∨ 65535 < v →
    assemble (.encpos v) = .error .badOperand ∧ assemble (.setint v) = .error .badOperand) ∧
  (∀ v : Half, assemble (.encpos v.toNat) = .ok (.encpos v) ∧ assemble (.setint v.toNat) = .ok (.setint v))

/-! ## The step, and the wire frames (log entry 9) -/

/-- A step with a transaction presented first runs the instruction it decodes to (R219), the transaction taken
away; and `withFetchWord` presents exactly the table's word. The port's queue and the table's numbering are log
entries 2 and 10. -/
def Obligations.StepRunsTheDecodedInstruction : Prop :=
  (∀ (s : State) x rest i, s.inbox = .transaction x :: rest → decode x = .ok i →
    step s = exec i { s with inbox := rest }) ∧
  (∀ (s : State) nbits w i, decodeTableWord nbits w = some i →
    step (s.withFetchWord nbits w) = exec i s)

/-- A transaction that the decoder rejects is refused: a reserved word as `REFUSED_ENCODING` (R90, R218), a bad DATA
as `REFUSED_OPERAND` (R91, R218). The third clause, that link bytes which are no frame are refused as `notAFrame`, is
the model's choice (log entry 11). -/
def Obligations.RejectedTransactionsAreRefused : Prop :=
  ∀ (s : State) x rest, s.inbox = .transaction x :: rest →
    (decode x = .error .reservedWord → step s = .refused .reservedEncoding) ∧
    (decode x = .error .badOperand → step s = .refused .badOperand) ∧
    (decode x = .error .notAFrame → step s = .refused .notAFrame)

/-- The model's choice (log entry 9): an outbound frame is offered to the transport, an acknowledgement is queued as
a read's answer, and the block's own state does not change. -/
def Obligations.WireFramesCrossTheLink : Prop :=
  ∀ (s : State) (n c a x : Byte) (raw : AckBytes),
    exec (.ssnFrame n c a x) s = .next { s with link := { s.link with
      frames := s.link.frames ++ [[0xD5, 0x82, 0x06, 0x00, 0x00, 0xAA, 0x55, n, c, a, x]] } } ∧
    exec (.posFrame n c a x) s = .next { s with link := { s.link with
      frames := s.link.frames ++ [[0xD5, 0x82, 0x0F, 0x01, 0x00, 0x01, 0x71, n, c, 0, 0, 0, 0, 0, 0, 0, 0, 0, a, x]] } } ∧
    exec .pollFrame s = .next { s with link := { s.link with
      frames := s.link.frames ++ [[0xD5, 0x82, 0x0F, 0x01, 0x00, 0x01, 0, 0, 0, 0, 0, 0, 0, 0, 0, 0, 0, 0, 0xAC, 0x55]] } } ∧
    exec (.ackFrame raw) s = .next { s with link := { s.link with
      rxQueue := s.link.rxQueue ++ [[raw.z0, raw.z1, raw.z2, raw.z3, raw.z4, raw.s, raw.l, raw.h, raw.v, raw.q,
        raw.z10, raw.z11]] } }

/-- The model's choice (log entry 9) with R85: an acknowledgement that crosses the link while no read answer is
listed is what the next read answers, and the parser takes every field of R85 and R86 from it, slip by the
block's `SLIP_MASK`. -/
def Obligations.DeliveredAckIsDecoded : Prop :=
  ∀ (s : State) (raw : AckBytes), s.link.rxQueue = [] →
    ∃ t a, exec (.ackFrame raw) s = .next t ∧ decodeAck t.params.slipMask (rxAnswer t) = some a ∧
      (a.engaged = true ↔ raw.s.toNat % 2 = 1) ∧ a.alarm.toNat = raw.s.toNat % 4 ∧
      (s.params.slipMask = .mask02 → a.slip.toNat = 2 * (raw.s.toNat / 2 % 2)) ∧
      (s.params.slipMask = .mask03 → a.slip.toNat = raw.s.toNat % 4) ∧
      a.position.toNat = raw.l.toNat + 256 * raw.h.toNat ∧ a.voltage = raw.v ∧ a.torque = raw.q
end

