-- ==== Sys2Proof/Laws/Memory.lean ====
section
/-! SUPPORT. The laws of the FRAME byte space: what a load can be read back as, that it keeps the canonical form,
and the lengths of the payloads and frames that are loaded. -/

namespace Sys2Proof.Machine

@[simp] theorem memory_read_nil (i : Nat) : Memory.read [] i = none := rfl

theorem memory_read_loadAt_below (l : List Byte) (a i : Nat) (h : i < a) :
    Memory.read (Memory.loadAt a l) i = none := by
  induction l generalizing a with
  | nil => rfl
  | cons b l ih =>
    have hne : ¬ a = i := by omega
    simp only [Memory.loadAt, Memory.read, if_neg hne]
    exact ih (a + 1) (by omega)

theorem memory_read_loadAt (l : List Byte) (a i : Nat) :
    Memory.read (Memory.loadAt a l) (a + i) = l[i]? := by
  induction l generalizing a i with
  | nil => simp [Memory.loadAt]
  | cons b l ih =>
    cases i with
    | zero => simp [Memory.loadAt, Memory.read]
    | succ n =>
      have hne : ¬ a = a + (n + 1) := by omega
      have hadd : a + (n + 1) = (a + 1) + n := by omega
      simp only [Memory.loadAt, Memory.read, if_neg hne, List.getElem?_cons_succ]
      rw [hadd, ih]

/-- A loaded byte list reads back at its own offsets, and has no value anywhere else. -/
@[simp] theorem memory_read_load (f : List Byte) (i : Nat) :
    Memory.read (Memory.load f) i = f[i]? := by
  simpa [Memory.load] using memory_read_loadAt f 0 i

theorem memory_wfFrom_loadAt (l : List Byte) (low a : Nat) (hlow : low ≤ a) (h : a + l.length ≤ 20) :
    Memory.wfFrom low (Memory.loadAt a l) = true := by
  induction l generalizing low a with
  | nil => rfl
  | cons b l ih =>
    simp only [List.length_cons] at h
    simp only [Memory.loadAt, Memory.wfFrom, Bool.and_eq_true, decide_eq_true_eq]
    exact ⟨⟨hlow, by omega⟩, ih (a + 1) (a + 1) (Nat.le_refl _) (by omega)⟩

/-- A load of at most twenty bytes is in canonical form. -/
theorem memory_load_wf (f : List Byte) (h : f.length ≤ 20) : Memory.wf (Memory.load f) = true :=
  memory_wfFrom_loadAt f 0 0 (Nat.le_refl _) (by omega)

theorem memory_bytesFrom_loadAt (l : List Byte) (m : Memory) (a : Nat)
    (h : ∀ i, i < l.length → Memory.read m (a + i) = l[i]?) :
    Memory.bytesFrom m a l.length = l := by
  induction l generalizing a with
  | nil => rfl
  | cons b l ih =>
    have h0 : Memory.read m a = some b := by simpa using h 0 (by simp)
    have ht : Memory.bytesFrom m (a + 1) l.length = l := by
      refine ih (a + 1) fun i hi => ?_
      have := h (i + 1) (by simpa using hi)
      simpa [Nat.add_comm, Nat.add_left_comm] using this
    simp [Memory.bytesFrom, h0, ht]

/-- The bytes of a loaded list, read in offset order, are the list. -/
@[simp] theorem memory_bytesFrom_load (f : List Byte) :
    Memory.bytesFrom (Memory.load f) 0 f.length = f :=
  memory_bytesFrom_loadAt f _ 0 fun i _ => by simp

/-! ## Lengths -/

@[simp] theorem ssnPayload_length (n : Byte) : (ssnPayload n).length = 6 := rfl

@[simp] theorem posPayload_length (poll : Bool) (t : Half) : (posPayload poll t).length = 15 := by
  cases poll <;> rfl

@[simp] theorem makeFrame_length (p : List Byte) : (makeFrame p).length = p.length + 5 := by
  simp [makeFrame]

@[simp] theorem ackFrameBytes_length (r : AckBytes) : (ackFrameBytes r).length = 12 := rfl

end Sys2Proof.Machine
end

