-- ==== Sys2Proof/Laws/State.lean ====
section
/-! SUPPORT. One lemma per field per update of the state, true by rfl: no later proof unfolds a record update. -/

namespace Sys2Proof.Machine

/-! ### encoderUpdate -/

@[simp] theorem encoderUpdate_params (p : List Byte) (s : State) : (encoderUpdate p s).params = s.params := rfl
@[simp] theorem encoderUpdate_ctrl (p : List Byte) (s : State) : (encoderUpdate p s).ctrl = s.ctrl := rfl
@[simp] theorem encoderUpdate_intent (p : List Byte) (s : State) : (encoderUpdate p s).intent = s.intent := rfl
@[simp] theorem encoderUpdate_ack (p : List Byte) (s : State) : (encoderUpdate p s).ack = s.ack := rfl
@[simp] theorem encoderUpdate_tickResult (p : List Byte) (s : State) : (encoderUpdate p s).tickResult = s.tickResult := rfl
@[simp] theorem encoderUpdate_errCause (p : List Byte) (s : State) : (encoderUpdate p s).errCause = s.errCause := rfl
@[simp] theorem encoderUpdate_frameLen (p : List Byte) (s : State) : (encoderUpdate p s).frameLen = BitVec.ofNat 5 (makeFrame p).length := rfl
@[simp] theorem encoderUpdate_frame (p : List Byte) (s : State) : (encoderUpdate p s).frame = Memory.load (makeFrame p) := rfl
@[simp] theorem encoderUpdate_accAdd (p : List Byte) (s : State) : (encoderUpdate p s).accAdd = (accumulate p).1 := rfl
@[simp] theorem encoderUpdate_accXor (p : List Byte) (s : State) : (encoderUpdate p s).accXor = (accumulate p).2 := rfl
@[simp] theorem encoderUpdate_result (p : List Byte) (s : State) : (encoderUpdate p s).result = s.result := rfl
@[simp] theorem encoderUpdate_readout (p : List Byte) (s : State) : (encoderUpdate p s).readout = s.readout := rfl
@[simp] theorem encoderUpdate_inbox (p : List Byte) (s : State) : (encoderUpdate p s).inbox = s.inbox := rfl
@[simp] theorem encoderUpdate_link (p : List Byte) (s : State) : (encoderUpdate p s).link = s.link := rfl

/-! ### resultFrame -/

@[simp] theorem resultFrame_params (s : State) : (resultFrame s).params = s.params := rfl
@[simp] theorem resultFrame_ctrl (s : State) : (resultFrame s).ctrl = s.ctrl := rfl
@[simp] theorem resultFrame_intent (s : State) : (resultFrame s).intent = s.intent := rfl
@[simp] theorem resultFrame_ack (s : State) : (resultFrame s).ack = s.ack := rfl
@[simp] theorem resultFrame_tickResult (s : State) : (resultFrame s).tickResult = s.tickResult := rfl
@[simp] theorem resultFrame_errCause (s : State) : (resultFrame s).errCause = s.errCause := rfl
@[simp] theorem resultFrame_frameLen (s : State) : (resultFrame s).frameLen = s.frameLen := rfl
@[simp] theorem resultFrame_frame (s : State) : (resultFrame s).frame = s.frame := rfl
@[simp] theorem resultFrame_accAdd (s : State) : (resultFrame s).accAdd = s.accAdd := rfl
@[simp] theorem resultFrame_accXor (s : State) : (resultFrame s).accXor = s.accXor := rfl
@[simp] theorem resultFrame_result (s : State) : (resultFrame s).result = .frame s.frameLen (frameBytes s) := rfl
@[simp] theorem resultFrame_readout (s : State) : (resultFrame s).readout = s.readout := rfl
@[simp] theorem resultFrame_inbox (s : State) : (resultFrame s).inbox = s.inbox := rfl
@[simp] theorem resultFrame_link (s : State) : (resultFrame s).link = s.link := rfl

/-! ### txWrite -/

@[simp] theorem txWrite_params (b : List Byte) (s : State) : (txWrite b s).params = s.params := rfl
@[simp] theorem txWrite_ctrl (b : List Byte) (s : State) : (txWrite b s).ctrl = s.ctrl := rfl
@[simp] theorem txWrite_intent (b : List Byte) (s : State) : (txWrite b s).intent = s.intent := rfl
@[simp] theorem txWrite_ack (b : List Byte) (s : State) : (txWrite b s).ack = s.ack := rfl
@[simp] theorem txWrite_tickResult (b : List Byte) (s : State) : (txWrite b s).tickResult = s.tickResult := rfl
@[simp] theorem txWrite_errCause (b : List Byte) (s : State) : (txWrite b s).errCause = s.errCause := rfl
@[simp] theorem txWrite_frameLen (b : List Byte) (s : State) : (txWrite b s).frameLen = s.frameLen := rfl
@[simp] theorem txWrite_frame (b : List Byte) (s : State) : (txWrite b s).frame = s.frame := rfl
@[simp] theorem txWrite_accAdd (b : List Byte) (s : State) : (txWrite b s).accAdd = s.accAdd := rfl
@[simp] theorem txWrite_accXor (b : List Byte) (s : State) : (txWrite b s).accXor = s.accXor := rfl
@[simp] theorem txWrite_result (b : List Byte) (s : State) : (txWrite b s).result = s.result := rfl
@[simp] theorem txWrite_readout (b : List Byte) (s : State) : (txWrite b s).readout = s.readout := rfl
@[simp] theorem txWrite_inbox (b : List Byte) (s : State) : (txWrite b s).inbox = s.inbox := rfl
@[simp] theorem txWrite_link (b : List Byte) (s : State) : (txWrite b s).link = s.link.afterWrite b := rfl

/-! ### rxRead -/

@[simp] theorem rxRead_params (s : State) : (rxRead s).params = s.params := rfl
@[simp] theorem rxRead_ctrl (s : State) : (rxRead s).ctrl = s.ctrl := rfl
@[simp] theorem rxRead_intent (s : State) : (rxRead s).intent = s.intent := rfl
@[simp] theorem rxRead_ack (s : State) : (rxRead s).ack = s.ack := rfl
@[simp] theorem rxRead_tickResult (s : State) : (rxRead s).tickResult = s.tickResult := rfl
@[simp] theorem rxRead_errCause (s : State) : (rxRead s).errCause = s.errCause := rfl
@[simp] theorem rxRead_frameLen (s : State) : (rxRead s).frameLen = s.frameLen := rfl
@[simp] theorem rxRead_frame (s : State) : (rxRead s).frame = s.frame := rfl
@[simp] theorem rxRead_accAdd (s : State) : (rxRead s).accAdd = s.accAdd := rfl
@[simp] theorem rxRead_accXor (s : State) : (rxRead s).accXor = s.accXor := rfl
@[simp] theorem rxRead_result (s : State) : (rxRead s).result = s.result := rfl
@[simp] theorem rxRead_readout (s : State) : (rxRead s).readout = s.readout := rfl
@[simp] theorem rxRead_inbox (s : State) : (rxRead s).inbox = s.inbox := rfl
@[simp] theorem rxRead_link (s : State) : (rxRead s).link = s.link.afterRead := rfl

/-! ### linkOffer -/

@[simp] theorem linkOffer_params (b : List Byte) (s : State) : (linkOffer b s).params = s.params := rfl
@[simp] theorem linkOffer_ctrl (b : List Byte) (s : State) : (linkOffer b s).ctrl = s.ctrl := rfl
@[simp] theorem linkOffer_intent (b : List Byte) (s : State) : (linkOffer b s).intent = s.intent := rfl
@[simp] theorem linkOffer_ack (b : List Byte) (s : State) : (linkOffer b s).ack = s.ack := rfl
@[simp] theorem linkOffer_tickResult (b : List Byte) (s : State) : (linkOffer b s).tickResult = s.tickResult := rfl
@[simp] theorem linkOffer_errCause (b : List Byte) (s : State) : (linkOffer b s).errCause = s.errCause := rfl
@[simp] theorem linkOffer_frameLen (b : List Byte) (s : State) : (linkOffer b s).frameLen = s.frameLen := rfl
@[simp] theorem linkOffer_frame (b : List Byte) (s : State) : (linkOffer b s).frame = s.frame := rfl
@[simp] theorem linkOffer_accAdd (b : List Byte) (s : State) : (linkOffer b s).accAdd = s.accAdd := rfl
@[simp] theorem linkOffer_accXor (b : List Byte) (s : State) : (linkOffer b s).accXor = s.accXor := rfl
@[simp] theorem linkOffer_result (b : List Byte) (s : State) : (linkOffer b s).result = s.result := rfl
@[simp] theorem linkOffer_readout (b : List Byte) (s : State) : (linkOffer b s).readout = s.readout := rfl
@[simp] theorem linkOffer_inbox (b : List Byte) (s : State) : (linkOffer b s).inbox = s.inbox := rfl
@[simp] theorem linkOffer_link (b : List Byte) (s : State) : (linkOffer b s).link = { s.link with frames := s.link.frames ++ [b] } := rfl

/-! ### linkDeliver -/

@[simp] theorem linkDeliver_params (b : List Byte) (s : State) : (linkDeliver b s).params = s.params := rfl
@[simp] theorem linkDeliver_ctrl (b : List Byte) (s : State) : (linkDeliver b s).ctrl = s.ctrl := rfl
@[simp] theorem linkDeliver_intent (b : List Byte) (s : State) : (linkDeliver b s).intent = s.intent := rfl
@[simp] theorem linkDeliver_ack (b : List Byte) (s : State) : (linkDeliver b s).ack = s.ack := rfl
@[simp] theorem linkDeliver_tickResult (b : List Byte) (s : State) : (linkDeliver b s).tickResult = s.tickResult := rfl
@[simp] theorem linkDeliver_errCause (b : List Byte) (s : State) : (linkDeliver b s).errCause = s.errCause := rfl
@[simp] theorem linkDeliver_frameLen (b : List Byte) (s : State) : (linkDeliver b s).frameLen = s.frameLen := rfl
@[simp] theorem linkDeliver_frame (b : List Byte) (s : State) : (linkDeliver b s).frame = s.frame := rfl
@[simp] theorem linkDeliver_accAdd (b : List Byte) (s : State) : (linkDeliver b s).accAdd = s.accAdd := rfl
@[simp] theorem linkDeliver_accXor (b : List Byte) (s : State) : (linkDeliver b s).accXor = s.accXor := rfl
@[simp] theorem linkDeliver_result (b : List Byte) (s : State) : (linkDeliver b s).result = s.result := rfl
@[simp] theorem linkDeliver_readout (b : List Byte) (s : State) : (linkDeliver b s).readout = s.readout := rfl
@[simp] theorem linkDeliver_inbox (b : List Byte) (s : State) : (linkDeliver b s).inbox = s.inbox := rfl
@[simp] theorem linkDeliver_link (b : List Byte) (s : State) : (linkDeliver b s).link = { s.link with rxQueue := s.link.rxQueue ++ [b] } := rfl

/-! ### finishTick -/

@[simp] theorem finishTick_params (c : Bool) (s : State) : (finishTick c s).params = s.params := rfl
@[simp] theorem finishTick_ctrl (c : Bool) (s : State) : (finishTick c s).ctrl = s.ctrl := rfl
@[simp] theorem finishTick_intent (c : Bool) (s : State) : (finishTick c s).intent = s.intent := rfl
@[simp] theorem finishTick_ack (c : Bool) (s : State) : (finishTick c s).ack = s.ack := rfl
@[simp] theorem finishTick_tickResult (c : Bool) (s : State) : (finishTick c s).tickResult = ⟨true, c⟩ := rfl
@[simp] theorem finishTick_errCause (c : Bool) (s : State) : (finishTick c s).errCause = s.errCause := rfl
@[simp] theorem finishTick_frameLen (c : Bool) (s : State) : (finishTick c s).frameLen = s.frameLen := rfl
@[simp] theorem finishTick_frame (c : Bool) (s : State) : (finishTick c s).frame = s.frame := rfl
@[simp] theorem finishTick_accAdd (c : Bool) (s : State) : (finishTick c s).accAdd = s.accAdd := rfl
@[simp] theorem finishTick_accXor (c : Bool) (s : State) : (finishTick c s).accXor = s.accXor := rfl
@[simp] theorem finishTick_result (c : Bool) (s : State) : (finishTick c s).result = .cont c := rfl
@[simp] theorem finishTick_readout (c : Bool) (s : State) : (finishTick c s).readout = s.readout := rfl
@[simp] theorem finishTick_inbox (c : Bool) (s : State) : (finishTick c s).inbox = s.inbox := rfl
@[simp] theorem finishTick_link (c : Bool) (s : State) : (finishTick c s).link = s.link := rfl

/-! ### invalidateAck -/

@[simp] theorem invalidateAck_params (s : State) : (invalidateAck s).params = s.params := rfl
@[simp] theorem invalidateAck_ctrl (s : State) : (invalidateAck s).ctrl = s.ctrl := rfl
@[simp] theorem invalidateAck_intent (s : State) : (invalidateAck s).intent = s.intent := rfl
@[simp] theorem invalidateAck_ack (s : State) : (invalidateAck s).ack = ⟨false, Config.freeAck s.link.writes⟩ := rfl
@[simp] theorem invalidateAck_tickResult (s : State) : (invalidateAck s).tickResult = s.tickResult := rfl
@[simp] theorem invalidateAck_errCause (s : State) : (invalidateAck s).errCause = s.errCause := rfl
@[simp] theorem invalidateAck_frameLen (s : State) : (invalidateAck s).frameLen = s.frameLen := rfl
@[simp] theorem invalidateAck_frame (s : State) : (invalidateAck s).frame = s.frame := rfl
@[simp] theorem invalidateAck_accAdd (s : State) : (invalidateAck s).accAdd = s.accAdd := rfl
@[simp] theorem invalidateAck_accXor (s : State) : (invalidateAck s).accXor = s.accXor := rfl
@[simp] theorem invalidateAck_result (s : State) : (invalidateAck s).result = s.result := rfl
@[simp] theorem invalidateAck_readout (s : State) : (invalidateAck s).readout = s.readout := rfl
@[simp] theorem invalidateAck_inbox (s : State) : (invalidateAck s).inbox = s.inbox := rfl
@[simp] theorem invalidateAck_link (s : State) : (invalidateAck s).link = s.link := rfl

/-! ### enterError -/

@[simp] theorem enterError_params (c : Cause) (s : State) : (enterError c s).params = s.params := rfl
@[simp] theorem enterError_ctrl (c : Cause) (s : State) : (enterError c s).ctrl = .error := rfl
@[simp] theorem enterError_intent (c : Cause) (s : State) : (enterError c s).intent = s.intent := rfl
@[simp] theorem enterError_ack (c : Cause) (s : State) : (enterError c s).ack = s.ack := rfl
@[simp] theorem enterError_tickResult (c : Cause) (s : State) : (enterError c s).tickResult = ⟨true, false⟩ := rfl
@[simp] theorem enterError_errCause (c : Cause) (s : State) : (enterError c s).errCause = causeCode c := rfl
@[simp] theorem enterError_frameLen (c : Cause) (s : State) : (enterError c s).frameLen = s.frameLen := rfl
@[simp] theorem enterError_frame (c : Cause) (s : State) : (enterError c s).frame = s.frame := rfl
@[simp] theorem enterError_accAdd (c : Cause) (s : State) : (enterError c s).accAdd = s.accAdd := rfl
@[simp] theorem enterError_accXor (c : Cause) (s : State) : (enterError c s).accXor = s.accXor := rfl
@[simp] theorem enterError_result (c : Cause) (s : State) : (enterError c s).result = .cont false := rfl
@[simp] theorem enterError_readout (c : Cause) (s : State) : (enterError c s).readout = s.readout := rfl
@[simp] theorem enterError_inbox (c : Cause) (s : State) : (enterError c s).inbox = s.inbox := rfl
@[simp] theorem enterError_link (c : Cause) (s : State) : (enterError c s).link = s.link := rfl

/-! ### present -/

@[simp] theorem present_params (x : Transaction) (s : State) : (present x s).params = s.params := rfl
@[simp] theorem present_ctrl (x : Transaction) (s : State) : (present x s).ctrl = s.ctrl := rfl
@[simp] theorem present_intent (x : Transaction) (s : State) : (present x s).intent = s.intent := rfl
@[simp] theorem present_ack (x : Transaction) (s : State) : (present x s).ack = s.ack := rfl
@[simp] theorem present_tickResult (x : Transaction) (s : State) : (present x s).tickResult = s.tickResult := rfl
@[simp] theorem present_errCause (x : Transaction) (s : State) : (present x s).errCause = s.errCause := rfl
@[simp] theorem present_frameLen (x : Transaction) (s : State) : (present x s).frameLen = s.frameLen := rfl
@[simp] theorem present_frame (x : Transaction) (s : State) : (present x s).frame = s.frame := rfl
@[simp] theorem present_accAdd (x : Transaction) (s : State) : (present x s).accAdd = s.accAdd := rfl
@[simp] theorem present_accXor (x : Transaction) (s : State) : (present x s).accXor = s.accXor := rfl
@[simp] theorem present_result (x : Transaction) (s : State) : (present x s).result = s.result := rfl
@[simp] theorem present_readout (x : Transaction) (s : State) : (present x s).readout = s.readout := rfl
@[simp] theorem present_inbox (x : Transaction) (s : State) : (present x s).inbox = .transaction x :: s.inbox := rfl
@[simp] theorem present_link (x : Transaction) (s : State) : (present x s).link = s.link := rfl

/-! ### resetBlock -/

@[simp] theorem resetBlock_params (s : State) : (resetBlock s).params = s.params := rfl
@[simp] theorem resetBlock_ctrl (s : State) : (resetBlock s).ctrl = .armed := rfl
@[simp] theorem resetBlock_intent (s : State) : (resetBlock s).intent = ⟨false, false, 0⟩ := rfl
@[simp] theorem resetBlock_ack (s : State) : (resetBlock s).ack = ⟨false, ackRecordAtReset⟩ := rfl
@[simp] theorem resetBlock_tickResult (s : State) : (resetBlock s).tickResult = ⟨false, false⟩ := rfl
@[simp] theorem resetBlock_errCause (s : State) : (resetBlock s).errCause = 0 := rfl
@[simp] theorem resetBlock_frameLen (s : State) : (resetBlock s).frameLen = 0 := rfl
@[simp] theorem resetBlock_frame (s : State) : (resetBlock s).frame = [] := rfl
@[simp] theorem resetBlock_accAdd (s : State) : (resetBlock s).accAdd = 0 := rfl
@[simp] theorem resetBlock_accXor (s : State) : (resetBlock s).accXor = 0 := rfl
@[simp] theorem resetBlock_result (s : State) : (resetBlock s).result = .nothing := rfl
@[simp] theorem resetBlock_readout (s : State) : (resetBlock s).readout = s.readout := rfl
@[simp] theorem resetBlock_inbox (s : State) : (resetBlock s).inbox = s.inbox := rfl
@[simp] theorem resetBlock_link (s : State) : (resetBlock s).link = s.link := rfl

/-! ### failExchange -/

@[simp] theorem failExchange_params (c : Cause) (s : State) : (failExchange c s).params = s.params := rfl
@[simp] theorem failExchange_ctrl (c : Cause) (s : State) : (failExchange c s).ctrl = .error := rfl
@[simp] theorem failExchange_intent (c : Cause) (s : State) : (failExchange c s).intent = s.intent := rfl
@[simp] theorem failExchange_ack (c : Cause) (s : State) : (failExchange c s).ack = ⟨false, Config.freeAck s.link.writes⟩ := rfl
@[simp] theorem failExchange_tickResult (c : Cause) (s : State) : (failExchange c s).tickResult = ⟨true, false⟩ := rfl
@[simp] theorem failExchange_errCause (c : Cause) (s : State) : (failExchange c s).errCause = causeCode c := rfl
@[simp] theorem failExchange_frameLen (c : Cause) (s : State) : (failExchange c s).frameLen = s.frameLen := rfl
@[simp] theorem failExchange_frame (c : Cause) (s : State) : (failExchange c s).frame = s.frame := rfl
@[simp] theorem failExchange_accAdd (c : Cause) (s : State) : (failExchange c s).accAdd = s.accAdd := rfl
@[simp] theorem failExchange_accXor (c : Cause) (s : State) : (failExchange c s).accXor = s.accXor := rfl
@[simp] theorem failExchange_result (c : Cause) (s : State) : (failExchange c s).result = .cont false := rfl
@[simp] theorem failExchange_readout (c : Cause) (s : State) : (failExchange c s).readout = s.readout := rfl
@[simp] theorem failExchange_inbox (c : Cause) (s : State) : (failExchange c s).inbox = s.inbox := rfl
@[simp] theorem failExchange_link (c : Cause) (s : State) : (failExchange c s).link = s.link := rfl

/-! ### acceptAck -/

@[simp] theorem acceptAck_params (tgt : Int) (a : AckRecord) (s : State) : (acceptAck tgt a s).params = s.params := rfl
@[simp] theorem acceptAck_ctrl (tgt : Int) (a : AckRecord) (s : State) : (acceptAck tgt a s).ctrl = nextState s.ctrl tgt a.position a.slip := rfl
@[simp] theorem acceptAck_intent (tgt : Int) (a : AckRecord) (s : State) : (acceptAck tgt a s).intent = s.intent := rfl
@[simp] theorem acceptAck_ack (tgt : Int) (a : AckRecord) (s : State) : (acceptAck tgt a s).ack = ⟨true, a⟩ := rfl
@[simp] theorem acceptAck_tickResult (tgt : Int) (a : AckRecord) (s : State) : (acceptAck tgt a s).tickResult = ⟨true, true⟩ := rfl
@[simp] theorem acceptAck_errCause (tgt : Int) (a : AckRecord) (s : State) : (acceptAck tgt a s).errCause = s.errCause := rfl
@[simp] theorem acceptAck_frameLen (tgt : Int) (a : AckRecord) (s : State) : (acceptAck tgt a s).frameLen = s.frameLen := rfl
@[simp] theorem acceptAck_frame (tgt : Int) (a : AckRecord) (s : State) : (acceptAck tgt a s).frame = s.frame := rfl
@[simp] theorem acceptAck_accAdd (tgt : Int) (a : AckRecord) (s : State) : (acceptAck tgt a s).accAdd = s.accAdd := rfl
@[simp] theorem acceptAck_accXor (tgt : Int) (a : AckRecord) (s : State) : (acceptAck tgt a s).accXor = s.accXor := rfl
@[simp] theorem acceptAck_result (tgt : Int) (a : AckRecord) (s : State) : (acceptAck tgt a s).result = .cont true := rfl
@[simp] theorem acceptAck_readout (tgt : Int) (a : AckRecord) (s : State) : (acceptAck tgt a s).readout = s.readout := rfl
@[simp] theorem acceptAck_inbox (tgt : Int) (a : AckRecord) (s : State) : (acceptAck tgt a s).inbox = s.inbox := rfl
@[simp] theorem acceptAck_link (tgt : Int) (a : AckRecord) (s : State) : (acceptAck tgt a s).link = s.link := rfl

/-! ### Link.afterWrite -/

@[simp] theorem Link.afterWrite_frames (l : Link) (b : List Byte) : (l.afterWrite b).frames = l.frames ++ [b] := rfl
@[simp] theorem Link.afterWrite_writes (l : Link) (b : List Byte) : (l.afterWrite b).writes = l.writes + 1 := rfl
@[simp] theorem Link.afterWrite_reads (l : Link) (b : List Byte) : (l.afterWrite b).reads = l.reads := rfl
@[simp] theorem Link.afterWrite_txQueue (l : Link) (b : List Byte) : (l.afterWrite b).txQueue = l.txQueue.tail := rfl
@[simp] theorem Link.afterWrite_rxQueue (l : Link) (b : List Byte) : (l.afterWrite b).rxQueue = l.rxQueue := rfl

/-! ### Link.afterRead -/

@[simp] theorem Link.afterRead_frames (l : Link) : (l.afterRead).frames = l.frames := rfl
@[simp] theorem Link.afterRead_writes (l : Link) : (l.afterRead).writes = l.writes := rfl
@[simp] theorem Link.afterRead_reads (l : Link) : (l.afterRead).reads = l.reads + 1 := rfl
@[simp] theorem Link.afterRead_txQueue (l : Link) : (l.afterRead).txQueue = l.txQueue := rfl
@[simp] theorem Link.afterRead_rxQueue (l : Link) : (l.afterRead).rxQueue = l.rxQueue.tail := rfl

end Sys2Proof.Machine
end

