-- ==== Sys2Proof/Laws/Ops.lean ====
section
/-! SUPPORT. What each shared operation, and a step, can do, said once: a later proof cites these and unfolds none
of the operations. -/

namespace Sys2Proof.Machine

/-! ## The bytes of a target -/

/-- The low byte as a number (R62). -/
theorem loByte_eq (v : Half) : loByte v = BitVec.ofNat 8 (v.toNat % 256) := by
  apply BitVec.eq_of_toNat_eq
  have h : (v &&& 0xFF).toNat = v.toNat % 256 := by
    rw [BitVec.toNat_and]; exact Nat.and_two_pow_sub_one_eq_mod v.toNat 8
  rw [loByte, BitVec.toNat_setWidth, h, BitVec.toNat_ofNat]

/-- The high byte as a number (R62). -/
theorem hiByte_eq (v : Half) : hiByte v = BitVec.ofNat 8 (v.toNat / 256) := by
  apply BitVec.eq_of_toNat_eq
  have h : ((v >>> 8) &&& 0xFF).toNat = v.toNat / 256 % 256 := by
    rw [BitVec.toNat_and, BitVec.toNat_ushiftRight, Nat.shiftRight_eq_div_pow]
    exact Nat.and_two_pow_sub_one_eq_mod _ 8
  rw [hiByte, BitVec.toNat_setWidth, h, BitVec.toNat_ofNat, Nat.mod_mod]

/-! ## The encoder -/

/-- After the register update the frame register reads as the frame, whole (R65, R133). -/
theorem frameBytes_encoderUpdate (p : List Byte) (s : State) (h : p.length ≤ 15) :
    frameBytes (encoderUpdate p s) = makeFrame p := by
  have hlen : (BitVec.ofNat 5 (makeFrame p).length).toNat = (makeFrame p).length := by
    rw [BitVec.toNat_ofNat, makeFrame_length]
    exact Nat.mod_eq_of_lt (by omega)
  unfold frameBytes
  simp only [encoderUpdate_frame, encoderUpdate_frameLen]
  rw [hlen]
  exact memory_bytesFrom_load _

/-- The register update keeps the canonical form of FRAME. -/
theorem encoderUpdate_frame_wf (p : List Byte) (s : State) (h : p.length ≤ 15) :
    Memory.wf (encoderUpdate p s).frame = true :=
  memory_load_wf _ (by rw [makeFrame_length]; omega)

/-- What a tick's write leaves: the encoder's registers and the link, nothing else. -/
theorem sendFrame_eq (poll : Bool) (t : Half) (s : State) :
    sendFrame poll t s =
      txWrite (makeFrame (posPayload poll t)) (encoderUpdate (posPayload poll t) s) := by
  simp only [sendFrame, frameBytes_encoderUpdate _ s (posPayload_length poll t).le]

/-- The read's answer does not depend on the write before it. -/
@[simp] theorem rxAnswer_sendFrame (poll : Bool) (t : Half) (s : State) :
    rxAnswer (sendFrame poll t s) = rxAnswer s := rfl

@[simp] theorem sendFrame_params (poll : Bool) (t : Half) (s : State) :
    (sendFrame poll t s).params = s.params := rfl

@[simp] theorem sendFrame_ctrl (poll : Bool) (t : Half) (s : State) :
    (sendFrame poll t s).ctrl = s.ctrl := rfl

@[simp] theorem sendFrame_intent (poll : Bool) (t : Half) (s : State) :
    (sendFrame poll t s).intent = s.intent := rfl

@[simp] theorem sendFrame_ack (poll : Bool) (t : Half) (s : State) :
    (sendFrame poll t s).ack = s.ack := rfl

@[simp] theorem sendFrame_tickResult (poll : Bool) (t : Half) (s : State) :
    (sendFrame poll t s).tickResult = s.tickResult := rfl

@[simp] theorem sendFrame_errCause (poll : Bool) (t : Half) (s : State) :
    (sendFrame poll t s).errCause = s.errCause := rfl

@[simp] theorem sendFrame_frame (poll : Bool) (t : Half) (s : State) :
    (sendFrame poll t s).frame = Memory.load (makeFrame (posPayload poll t)) := rfl

@[simp] theorem sendFrame_accAdd (poll : Bool) (t : Half) (s : State) :
    (sendFrame poll t s).accAdd = (accumulate (posPayload poll t)).1 := rfl

@[simp] theorem sendFrame_accXor (poll : Bool) (t : Half) (s : State) :
    (sendFrame poll t s).accXor = (accumulate (posPayload poll t)).2 := rfl

@[simp] theorem sendFrame_result (poll : Bool) (t : Half) (s : State) :
    (sendFrame poll t s).result = s.result := rfl

@[simp] theorem sendFrame_readout (poll : Bool) (t : Half) (s : State) :
    (sendFrame poll t s).readout = s.readout := rfl

@[simp] theorem sendFrame_inbox (poll : Bool) (t : Half) (s : State) :
    (sendFrame poll t s).inbox = s.inbox := rfl

@[simp] theorem sendFrame_frameLen (poll : Bool) (t : Half) (s : State) :
    (sendFrame poll t s).frameLen = 20 := by
  rw [sendFrame_eq]
  simp

@[simp] theorem sendFrame_link (poll : Bool) (t : Half) (s : State) :
    (sendFrame poll t s).link = s.link.afterWrite (makeFrame (posPayload poll t)) := by
  rw [sendFrame_eq]
  rfl

/-- A read answer taken from the free value has at most twelve bytes (R66). -/
theorem rxAnswer_length_of_empty (s : State) (h : s.link.rxQueue = []) :
    (rxAnswer s).length ≤ 12 := by
  simp [rxAnswer, h, Config.ackLen]

/-! ## The parser -/

theorem decodeAck_eq_none_iff (m : SlipMask) (raw : List Byte) :
    decodeAck m raw = none ↔ raw.length < 12 := by
  unfold decodeAck Config.ackLen
  split <;> simp_all

theorem decodeAck_of_long (m : SlipMask) (raw : List Byte) (h : 12 ≤ raw.length) :
    decodeAck m raw = some (extract m raw) := by
  unfold decodeAck Config.ackLen
  rw [if_neg (by omega)]

/-! ## A tick -/

/-- Everything the exchange from the read on can do when it answers a next state (R178). -/
theorem receiveAck_cases {tgt : Int} {s s' : State} (h : receiveAck tgt s = .next s') :
    ((rxAnswer s).length < 12 ∧ s' = failExchange .ackDecodeFailure (rxRead s)) ∨
    ((rxAnswer s).length = 12 ∧
      s' = acceptAck tgt (extract s.params.slipMask (rxAnswer s)) (rxRead s)) := by
  by_cases hlong : Config.ackLen < (rxAnswer s).length
  · simp only [receiveAck, if_pos hlong] at h
    cases h
  · simp only [receiveAck, if_neg hlong] at h
    simp only [Config.ackLen] at hlong
    by_cases hshort : (rxAnswer s).length < 12
    · rw [(decodeAck_eq_none_iff _ _).2 hshort] at h
      exact .inl ⟨hshort, (Host.Outcome.next.inj h).symm⟩
    · rw [decodeAck_of_long _ _ (by omega)] at h
      exact .inr ⟨by omega, (Host.Outcome.next.inj h).symm⟩

/-- The read answered with twelve bytes: the Ack is accepted. -/
theorem receiveAck_of_twelve (tgt : Int) (s : State) (h : (rxAnswer s).length = 12) :
    receiveAck tgt s =
      .next (acceptAck tgt (extract s.params.slipMask (rxAnswer s)) (rxRead s)) := by
  have hlong : ¬ Config.ackLen < (rxAnswer s).length := by simp only [Config.ackLen]; omega
  simp only [receiveAck, if_neg hlong]
  rw [decodeAck_of_long _ _ (by omega)]

/-- The read answered with fewer: the decode fails. -/
theorem receiveAck_of_short (tgt : Int) (s : State) (h : (rxAnswer s).length < 12) :
    receiveAck tgt s = .next (failExchange .ackDecodeFailure (rxRead s)) := by
  have hlong : ¬ Config.ackLen < (rxAnswer s).length := by simp only [Config.ackLen]; omega
  simp only [receiveAck, if_neg hlong]
  rw [(decodeAck_eq_none_iff _ _).2 h]

/-- The read answered with more: the environment is refused. -/
theorem receiveAck_of_overlong (tgt : Int) (s : State) (h : 12 < (rxAnswer s).length) :
    receiveAck tgt s = .refused .badEnvironment := by
  have hlong : Config.ackLen < (rxAnswer s).length := h
  simp only [receiveAck, if_pos hlong]

/-- Everything an exchange can do when it answers a next state (R178). -/
theorem exchange_cases {poll : Bool} {t : Half} {tgt : Int} {s s' : State}
    (h : exchange poll t tgt s = .next s') :
    (txAnswer s = .err ∧ s' = failExchange .transportWriteFailure (sendFrame poll t s)) ∨
    (txAnswer s = .ok ∧ (rxAnswer s).length < 12 ∧
      s' = failExchange .ackDecodeFailure (rxRead (sendFrame poll t s))) ∨
    (txAnswer s = .ok ∧ (rxAnswer s).length = 12 ∧
      s' = acceptAck tgt (extract s.params.slipMask (rxAnswer s)) (rxRead (sendFrame poll t s))) := by
  unfold exchange at h
  cases hw : txAnswer s with
  | err =>
    rw [hw] at h
    exact .inl ⟨rfl, (Host.Outcome.next.inj h).symm⟩
  | ok =>
    rw [hw] at h
    rcases receiveAck_cases h with ⟨hl, hs⟩ | ⟨hl, hs⟩
    · exact .inr (.inl ⟨rfl, hl, hs⟩)
    · exact .inr (.inr ⟨rfl, hl, hs⟩)

/-- A TICK in ENGAGED with an intent is the exchange of the intent's frame (R175). -/
theorem execTick_engaged (s : State) (hc : s.ctrl = .engaged) (hv : s.intent.valid = true) :
    execTick s = exchange s.intent.poll s.intent.target (targetInt s.intent) s := by
  simp only [execTick, hc, tickEngaged, hv, if_true]

/-- A TICK in ARMED with an intent is the exchange of the poll frame (R176). -/
theorem execTick_armed (s : State) (hc : s.ctrl = .armed) (hv : s.intent.valid = true) :
    execTick s = exchange true 0 (targetInt s.intent) s := by
  simp only [execTick, hc, tickArmed, hv, if_true]

/-- Everything a TICK can do when it answers a next state (R173 to R177). -/
theorem execTick_cases {s s' : State} (h : execTick s = .next s') :
    (s.ctrl = .error ∧ s' = finishTick false s) ∨
    (s.ctrl = .standby ∧ s' = finishTick true s) ∨
    (s.ctrl = .engaged ∧ s.intent.valid = true ∧
      exchange s.intent.poll s.intent.target (targetInt s.intent) s = .next s') ∨
    (s.ctrl = .armed ∧ s.intent.valid = true ∧
      exchange true 0 (targetInt s.intent) s = .next s') := by
  unfold execTick at h
  cases hc : s.ctrl <;> rw [hc] at h
  · exact .inl ⟨rfl, (Host.Outcome.next.inj h).symm⟩
  · simp only [tickEngaged] at h
    split at h
    · rename_i hv
      exact .inr (.inr (.inl ⟨rfl, hv, h⟩))
    · cases h
  · simp only [tickArmed] at h
    split at h
    · rename_i hv
      exact .inr (.inr (.inr ⟨rfl, hv, h⟩))
    · cases h
  · exact .inr (.inl ⟨rfl, (Host.Outcome.next.inj h).symm⟩)

/-! ## A step -/

/-- A host read that answers changes the read port alone (R33). -/
theorem hostRead_next {e : Element} {s s' : State} (h : hostRead e s = .next s') :
    ∃ v, elementValue e s = some v ∧ s' = { s with readout := some v } := by
  unfold hostRead at h
  split at h
  · rename_i v hv
    exact ⟨v, hv, (Host.Outcome.next.inj h).symm⟩
  · cases h

/-- A transaction that answers a next state was decoded, and its instruction ran. -/
theorem runTransaction_next {x : Transaction} {s s' : State} (h : runTransaction x s = .next s') :
    ∃ i, decode x = .ok i ∧ exec i s = .next s' := by
  unfold runTransaction at h
  split at h
  · rename_i i hi
    exact ⟨i, hi, h⟩
  · cases h

/-- Everything a step can do when it answers a next state. -/
theorem step_cases {s s' : State} (h : step s = .next s') :
    (s.inbox = [] ∧ s' = s) ∨
    (∃ x i rest, s.inbox = .transaction x :: rest ∧ decode x = .ok i ∧
      exec i { s with inbox := rest } = .next s') ∨
    (∃ e v rest, s.inbox = .read e :: rest ∧ elementValue e s = some v ∧
      s' = { s with inbox := rest, readout := some v }) ∨
    (∃ rest, s.inbox = .reset :: rest ∧ s' = resetBlock { s with inbox := rest }) := by
  unfold step runPort at h
  split at h
  · rename_i hi
    exact .inl ⟨hi, (Host.Outcome.next.inj h).symm⟩
  · rename_i e rest hi
    cases e with
    | transaction x =>
      obtain ⟨i, hd, he⟩ := runTransaction_next h
      exact .inr (.inl ⟨x, i, rest, hi, hd, he⟩)
    | read e =>
      obtain ⟨v, hv, hs⟩ := hostRead_next h
      refine .inr (.inr (.inl ⟨e, v, rest, hi, ?_, hs⟩))
      cases e <;> exact hv
    | reset => exact .inr (.inr (.inr ⟨rest, hi, (Host.Outcome.next.inj h).symm⟩))

end Sys2Proof.Machine
end

