-- ==== Sys2Proof/Laws/PerInstr.lean ====
section
/-! SUPPORT. What holds of every instruction as a term, one lemma per constructor: its encoding has as many bits as
spec/opcode_table.json gives its row. -/

namespace Sys2Proof.Laws.TableSize

/-- How many bits a transaction presents: a command word has 32 (R87, R93), a frame eight a byte. -/
def presentedBits : Transaction → Nat
  | .command _ _ => 32
  | .wire bytes => 8 * bytes.length

/-- How many bits the opcode table gives an instruction's row: CMD32, WIRE88, WIRE160 or WIRE96. -/
def tableBits : Instr → Nat
  | .chkadd _ _ => 32
  | .chkxor _ _ => 32
  | .encssn => 32
  | .encpos _ => 32
  | .encpoll => 32
  | .decack _ => 32
  | .setint _ => 32
  | .setpoll => 32
  | .tick => 32
  | .ssnFrame _ _ _ _ => 88
  | .posFrame _ _ _ _ => 160
  | .pollFrame => 160
  | .ackFrame _ => 96

/-- The encoding of `i` has the size of its table row. -/
def Statement (i : Instr) : Prop := presentedBits (encode i) = tableBits i

theorem chkadd (seed : Byte) (data : List Byte) : Statement (.chkadd seed data) := rfl
theorem chkxor (seed : Byte) (data : List Byte) : Statement (.chkxor seed data) := rfl
theorem encssn : Statement .encssn := rfl
theorem encpos (target : Half) : Statement (.encpos target) := rfl
theorem encpoll : Statement .encpoll := rfl
theorem decack (data : List Byte) : Statement (.decack data) := rfl
theorem setint (target : Half) : Statement (.setint target) := rfl
theorem setpoll : Statement .setpoll := rfl
theorem tick : Statement .tick := rfl
theorem ssnFrame (n c a x : Byte) : Statement (.ssnFrame n c a x) := rfl
theorem posFrame (l h a x : Byte) : Statement (.posFrame l h a x) := rfl
theorem pollFrame : Statement .pollFrame := rfl
theorem ackFrame (raw : AckBytes) : Statement (.ackFrame raw) := rfl

end Sys2Proof.Laws.TableSize
end

