-- ==== Sys2Proof/Tests/Slice0.lean ====
section
/-! SUPPORT. Small tests: well-formedness, the decoding of every row by a word written out from the spec's
encoding, one step of every instruction against the vectors of spec/95_test_vectors.md, and a witness for the
hypotheses of every statement that has some. -/

namespace Sys2Proof.Tests

open Sys2Proof.Machine Sys2Proof.Safety

/-! ## Helpers -/

/-- The next state of an outcome. -/
def nextOf : Host.Outcome State Fault Refusal → Option State
  | .next s => some s
  | .fault _ => none
  | .refused _ => none

/-- `ACKB(s, p, v, q)` of 95_test_vectors.md, `p` given as its two bytes. -/
def ackb (s lo hi v q : Byte) : List Byte := [0, 0, 0, 0, 0, s, lo, hi, v, q, 0, 0]

/-- The block after reset in a given STATE with an intent, and answers of the transport. -/
def inState (m : SlipMask) (c : CtrlState) (i : Intent) (tx : List TxAnswer) (rx : List (List Byte)) : State :=
  { resetWith ⟨1, m⟩ [] tx rx with ctrl := c, intent := i }

/-- The intent of `SETINT 100`. -/
def int100 : Intent := ⟨true, false, 100⟩

/-- A state with events presented. -/
def presented (events : List Event) (s : State) : State := { s with inbox := events }

/-- A command word presented. -/
def cmd (w : Word) (data : List Byte) : Event := .transaction (.command w data)

/-! ## Well-formedness: an ill-formed term for each check -/

theorem test_wf_chkadd_refuses_256_bytes : (Instr.chkadd 0 (List.replicate 256 0)).wellFormed = false := by
  decide +kernel
theorem test_wf_chkxor_refuses_256_bytes : (Instr.chkxor 0 (List.replicate 256 0)).wellFormed = false := by
  decide +kernel
theorem test_wf_decack_refuses_256_bytes : (Instr.decack (List.replicate 256 0)).wellFormed = false := by
  decide +kernel
theorem test_wf_ssn_refuses_complement : (Instr.ssnFrame 0x01 0x01 0xA8 0x55).wellFormed = false := by decide
theorem test_wf_ssn_refuses_sum : (Instr.ssnFrame 0x01 0xFE 0xA9 0x55).wellFormed = false := by decide
theorem test_wf_ssn_refuses_xor : (Instr.ssnFrame 0x01 0xFE 0xA8 0x54).wellFormed = false := by decide
theorem test_wf_pos_refuses_sum : (Instr.posFrame 0x2C 0x01 0x4B 0x09).wellFormed = false := by decide
theorem test_wf_pos_refuses_xor : (Instr.posFrame 0x2C 0x01 0x4A 0x08).wellFormed = false := by decide
theorem test_wf_accepts_vectors :
    (Instr.ssnFrame 0x01 0xFE 0xA8 0x55).wellFormed = true ∧
      (Instr.posFrame 0x2C 0x01 0x4A 0x09).wellFormed = true := by decide

/-! ## Decoding: a word for every row, bits in the order OP, RSV, P, T (R87, R88) or bytes in order (R82 to R85) -/

theorem test_decode_chkadd :
    decode (.command 0b0001_00000000000_0_00000000_10101010 [0x01]) = .ok (.chkadd 0xAA [0x01]) := by rfl
theorem test_decode_chkxor :
    decode (.command 0b0010_00000000000_0_00000000_01010101 []) = .ok (.chkxor 0x55 []) := by rfl
theorem test_decode_encssn : decode (.command 0b0011_00000000000_0_0000000000000000 []) = .ok .encssn := by rfl
theorem test_decode_encpos :
    decode (.command 0b0100_00000000000_0_0000000100101100 []) = .ok (.encpos 300) := by rfl
theorem test_decode_encpoll : decode (.command 0b0100_00000000000_1_0000000000000000 []) = .ok .encpoll := by rfl
theorem test_decode_decack :
    decode (.command 0b0101_00000000000_0_0000000000000000 [7]) = .ok (.decack [7]) := by rfl
theorem test_decode_setint :
    decode (.command 0b0110_00000000000_0_1111111111111111 []) = .ok (.setint 65535) := by rfl
theorem test_decode_setpoll : decode (.command 0b0110_00000000000_1_0000000000000000 []) = .ok .setpoll := by rfl
theorem test_decode_tick : decode (.command 0b0111_00000000000_0_0000000000000000 []) = .ok .tick := by rfl
theorem test_decode_ssn_frame :
    decode (.wire [0xD5, 0x82, 0x06, 0x00, 0x00, 0xAA, 0x55, 0x01, 0xFE, 0xA8, 0x55]) =
      .ok (.ssnFrame 0x01 0xFE 0xA8 0x55) := by rfl
theorem test_decode_pos_frame :
    decode (.wire [0xD5, 0x82, 0x0F, 0x01, 0x00, 0x01, 0x71, 0x2C, 0x01, 0, 0, 0, 0, 0, 0, 0, 0, 0, 0x4A, 0x09]) =
      .ok (.posFrame 0x2C 0x01 0x4A 0x09) := by rfl
theorem test_decode_poll_frame :
    decode (.wire [0xD5, 0x82, 0x0F, 0x01, 0x00, 0x01, 0, 0, 0, 0, 0, 0, 0, 0, 0, 0, 0, 0, 0xAC, 0x55]) =
      .ok .pollFrame := by rfl
theorem test_decode_ack_frame :
    decode (.wire [1, 2, 3, 4, 5, 0x03, 0x2C, 0x01, 0x7B, 0x40, 6, 7]) =
      .ok (.ackFrame ⟨1, 2, 3, 4, 5, 0x03, 0x2C, 0x01, 0x7B, 0x40, 6, 7⟩) := by rfl
/-- V-REF-1, V-REF-2, V-CHK-15, V-ENC-23. -/
theorem test_decode_reserved_words :
    decode (.command 0x80000000 []) = .error .reservedWord ∧ decode (.command 0x70020000 []) = .error .reservedWord ∧
      decode (.command 0x10000100 []) = .error .reservedWord ∧
      decode (.command 0x40010001 []) = .error .reservedWord := by decide
/-- V-ENC-25; and a poll frame with one bit of its checksum wrong is no frame. -/
theorem test_decode_rejections :
    decode (.command 0x30000000 [0]) = .error .badOperand ∧
      decode (.wire (pollFrameBytes.take 19 ++ [0x54])) = .error .notAFrame := by decide

/-! ## One step of each instruction, expected results from 95_test_vectors.md -/

/-- L1-3. -/
theorem test_chkadd_wraps :
    (nextOf (exec (.chkadd 0x00 [0xFF, 0x02]) State.reset)).map (·.result) = some (.byte 0x01) := by decide
/-- V-CHK-8. -/
theorem test_chkadd_255_bytes : sum8 ((List.range 255).map (BitVec.ofNat 8)) 0 = 0x81 := by decide +kernel
/-- L1-4. -/
theorem test_chkxor_seed :
    (nextOf (exec (.chkxor 0x55 [0xFF]) State.reset)).map (·.result) = some (.byte 0xAA) := by decide
/-- V-CHK-13. -/
theorem test_chkxor_255_bytes : xor8 ((List.range 255).map (BitVec.ofNat 8)) 0 = 0xFF := by decide +kernel
/-- V-ENC-7: `SERVO_NUMBER = 255`. -/
theorem test_encssn_255 :
    (nextOf (exec .encssn (resetWith ⟨255, .mask02⟩ [] [] []))).map (·.result) =
      some (.frame 11 [0xD5, 0x82, 0x06, 0x00, 0x00, 0xAA, 0x55, 0xFF, 0x00, 0xA8, 0x55]) := by decide
/-- V-ENC-26: after ENCPOS 300, ENCSSN leaves `FRAME[11]` with no value. -/
theorem test_encssn_after_encpos :
    ((nextOf (exec (.encpos 300) State.reset)).bind fun s => (nextOf (exec .encssn s)).map fun t =>
      (t.frameLen, t.accAdd, Memory.read t.frame 10, Memory.read t.frame 11)) =
      some (11, 0xA8, some 0x55, none) := by decide
/-- V-ENC-16. -/
theorem test_encpos_1234 :
    (nextOf (exec (.encpos 0x1234) State.reset)).map (·.result) =
      some (.frame 20 [0xD5, 0x82, 0x0F, 0x01, 0x00, 0x01, 0x71, 0x34, 0x12, 0, 0, 0, 0, 0, 0, 0, 0, 0, 0x63, 0x02]) := by
  decide
/-- V-ENC-8. -/
theorem test_encpoll :
    (nextOf (exec .encpoll State.reset)).map (fun t => (t.result, t.accAdd, t.accXor)) =
      some (.frame 20 [0xD5, 0x82, 0x0F, 0x01, 0x00, 0x01, 0, 0, 0, 0, 0, 0, 0, 0, 0, 0, 0, 0, 0xAC, 0x55],
        0xAC, 0x55) := by decide
/-- V-DEC-2 and V-DEC-3. -/
theorem test_decack_mask02 :
    (nextOf (exec (.decack [0, 0, 0, 0, 0, 3, 0x2C, 1, 0x7B, 0x40, 0]) State.reset)).map (·.result) = some (.ack none) ∧
    (nextOf (exec (.decack (ackb 0x03 0x2C 0x01 0x7B 0x40)) State.reset)).map (·.result) =
      some (.ack (some ⟨true, 2, 3, 300, 123, 64⟩)) := by decide
/-- V-DEC-7 and V-DEC-9, `SLIP_MASK = 0x03`. -/
theorem test_decack_mask03 :
    (nextOf (exec (.decack (ackb 0x01 100 0 0 0)) (resetWith ⟨1, .mask03⟩ [] [] []))).map (·.result) =
      some (.ack (some ⟨true, 1, 1, 100, 0, 0⟩)) ∧
    (nextOf (exec (.decack (ackb 0x02 100 0 0 0)) (resetWith ⟨1, .mask03⟩ [] [] []))).map (·.result) =
      some (.ack (some ⟨false, 2, 2, 100, 0, 0⟩)) := by decide
/-- V-FSM-27. -/
theorem test_setint_65535 :
    (nextOf (exec (.setint 65535) State.reset)).map (·.intent) = some ⟨true, false, 65535⟩ := by decide
/-- V-FSM-26. -/
theorem test_setpoll :
    (nextOf (exec .setpoll State.reset)).map (fun t => (t.intent, targetInt t.intent)) =
      some (⟨true, true, 0⟩, -1) := by decide
/-- V-FSM-9: in ENGAGED the sentinel is -1, so position 4 has distance 5; the poll frame is sent. -/
theorem test_tick_sentinel :
    (nextOf (exec .tick (inState .mask02 .engaged ⟨true, true, 0⟩ [.ok] [ackb 0 4 0 0 0]))).map
      (fun t => (t.ctrl, t.tickResult, t.link.frames)) =
      some (.engaged, ⟨true, true⟩, [pollFrameBytes]) := by decide
/-- V-FSM-19: slip 1 wins over the drift test. -/
theorem test_tick_slip_wins :
    (nextOf (exec .tick (inState .mask03 .armed int100 [.ok] [ackb 0x01 200 0 0 0]))).map
      (fun t => (t.ctrl, t.ack.fields.slip, t.tickResult)) = some (.standby, 1, ⟨true, true⟩) := by decide
/-- R134, R82: the host transmits the frame that ENCSSN built. -/
theorem test_ssn_frame_is_offered :
    (nextOf (exec (.ssnFrame 0x01 0xFE 0xA8 0x55) State.reset)).map (·.link.frames) =
      some [[0xD5, 0x82, 0x06, 0x00, 0x00, 0xAA, 0x55, 0x01, 0xFE, 0xA8, 0x55]] := by decide
/-- V-ENC-11, R83. -/
theorem test_pos_frame_is_offered :
    (nextOf (exec (.posFrame 0x64 0x00 0x81 0x40) State.reset)).map (·.link.frames) =
      some [[0xD5, 0x82, 0x0F, 0x01, 0x00, 0x01, 0x71, 0x64, 0, 0, 0, 0, 0, 0, 0, 0, 0, 0, 0x81, 0x40]] := by decide
/-- R84. -/
theorem test_poll_frame_is_offered :
    (nextOf (exec .pollFrame State.reset)).map (fun t => (t.link.frames, t.link.writes, t.ctrl)) =
      some ([pollFrameBytes], 0, .armed) := by decide
/-- R85: the acknowledgement is what the next read answers. -/
theorem test_ack_frame_is_delivered :
    (nextOf (exec (.ackFrame ⟨0, 0, 0, 0, 0, 3, 0x2C, 1, 0x7B, 0x40, 0, 0⟩) State.reset)).map (fun t => rxAnswer t) =
      some (ackb 3 0x2C 1 0x7B 0x40) := by decide
/-- The host test of a fetch: the word of V-ENC-14 presented first runs from reset (L1-8). -/
theorem test_withFetchWord_runs :
    (nextOf (step (State.reset.withFetchWord 32 0x4000012C))).map (fun t => (t.accAdd, t.accXor)) =
      some (0x4A, 0x09) := by decide

/-! ## Witnesses: states and operands that meet the hypotheses of each statement -/

/-- ResetInputRestoresTheBlock. -/
theorem test_witness_reset : (presented [.reset] (inState .mask03 .standby int100 [] [])).inbox = [.reset] := rfl

/-- The state in which `SETINT 100` is presented after reset meets the invariant. -/
theorem test_witness_invariant : BlockInv (presented [cmd 0x60000064 []] State.reset) where
  frameCanonical := rfl
  frameLenLegal := .inl rfl
  frameHeld := fun _ => rfl
  frameHead := fun h => absurd rfl h
  accumulators := fun h => absurd rfl h
  pollTarget := by decide
  causeLegal := .inl rfl
  causeInError := by decide
  errorStopped := by decide
  othersContinue := by decide
  movedByAck := by decide
  standbySlip := by decide
  slipUnderMask02 := by decide
  engagedIsAlarmBit := by decide

/-- StepKeepsTheInvariant, ParametersNeverChange, StepTakesOneEvent, and INTENT's clause of
OnlyTheOwnersMoveStateAndIntent: the step answers, and moves INTENT. -/
theorem test_witness_step :
    (nextOf (step (presented [cmd 0x60000064 []] State.reset))).map (·.intent) = some int100 := by decide

/-- StandbyIsUnreachableUnderMask02: a run of two steps answers, and moves STATE. -/
theorem test_witness_run_under_mask02 :
    (nextOf (Host.Core.run core 2
      (resetWith ⟨7, .mask02⟩ [cmd 0x60000064 [], cmd 0x70000000 []] [.ok] [ackb 0x01 200 0 0 0]))).map (·.ctrl) =
      some .engaged := by decide

/-- ErrorIsAbsorbing. -/
theorem test_witness_error_run :
    (nextOf (Host.Core.run core 1
      (presented [cmd 0x70000000 []] (inState .mask02 .error int100 [] [])))).map (·.tickResult) =
      some ⟨true, false⟩ ∧
    noReset (presented [cmd 0x70000000 []] (inState .mask02 .error int100 [] [])) :=
  ⟨by decide, by unfold noReset; decide⟩

/-- StandbyIsAbsorbing. -/
theorem test_witness_standby_run :
    (nextOf (Host.Core.run core 1
      (presented [cmd 0x70000000 []] (inState .mask03 .standby int100 [] [])))).map (·.tickResult) =
      some ⟨true, true⟩ ∧
    noReset (presented [cmd 0x70000000 []] (inState .mask03 .standby int100 [] [])) :=
  ⟨by decide, by unfold noReset; decide⟩

/-- STATE's clause of OnlyTheOwnersMoveStateAndIntent, and OnlyTickUsesTheTransport (V-FSM-3). -/
theorem test_witness_transport :
    (nextOf (step (presented [cmd 0x70000000 []] (inState .mask02 .armed int100 [.ok] [ackb 0 105 0 0 0])))).map
      (fun t => (t.ctrl, t.link.writes, t.link.reads)) = some (.engaged, 1, 1) := by decide

/-- InstructionsWriteOnlyTheirElements: each clause has an instruction that answers. -/
theorem test_witness_write_matrix :
    (nextOf (exec (.decack []) State.reset)).isSome ∧ (nextOf (exec .encpoll State.reset)).isSome ∧
    (nextOf (exec .setpoll State.reset)).isSome ∧
    (nextOf (exec .tick (inState .mask02 .error int100 [] []))).isSome ∧
    (nextOf (exec .tick (inState .mask02 .standby int100 [] []))).isSome ∧
    (nextOf (exec .tick (inState .mask02 .engaged int100 [.err] []))).isSome ∧
    (nextOf (exec .pollFrame State.reset)).isSome := by decide

/-- IdleBlockKeepsItsState. -/
theorem test_witness_idle : (inState .mask02 .engaged int100 [] []).inbox = [] := rfl

/-- ChecksumClosedForms: two orders of one list (V-CHK-9). -/
theorem test_witness_perm : [(0xFF : Byte), 0x02].Perm [0x02, 0xFF] := List.Perm.swap _ _ _

/-- ChkaddAnswersTheSum, ChkxorAnswersTheExclusiveOr, DecackAnswersTheFields, OverlongDataIsRefused, ParserLaws: the
lengths at the boundaries. -/
theorem test_witness_data_lengths :
    (List.replicate 255 (0 : Byte)).length ≤ 255 ∧ 255 < (List.replicate 256 (0 : Byte)).length ∧
    (List.replicate 11 (0 : Byte)).length < 12 ∧ 12 ≤ (List.replicate 12 (0 : Byte)).length := by decide +kernel

/-- PositionFrameChecksums: targets 1 and 256 have one sum and one exclusive OR. -/
theorem test_witness_alike_targets :
    targetLow 1 + targetHigh 1 = targetLow 256 + targetHigh 256 ∧
    targetLow 1 ^^^ targetHigh 1 = targetLow 256 ^^^ targetHigh 256 := by decide

/-- ParserChecksOnlyTheLength, IgnoredAckBytesHaveNoEffect: two different answers that agree at offsets 5 to 9, and a
TICK that reads the first, one that does not read since its write fails, and one in ERROR. -/
theorem test_witness_ignored_bytes :
    [1, 1, 1, 1, 1, 2, 3, 4, 5, 6, 7, 8] ≠ ackb 2 3 4 5 6 ∧
    (∀ i < 10, 5 ≤ i → ([1, 1, 1, 1, 1, 2, 3, 4, 5, 6, 7, 8] : List Byte)[i]? = (ackb 2 3 4 5 6)[i]?) ∧
    (nextOf (exec .tick (inState .mask02 .armed int100 [.ok] [ackb 2 3 4 5 6]))).map (·.link.reads) = some 1 ∧
    (nextOf (exec .tick (inState .mask02 .armed int100 [.err] [ackb 2 3 4 5 6]))).map (·.link.reads) = some 0 ∧
    (nextOf (exec .tick (inState .mask02 .error int100 [] [ackb 2 3 4 5 6]))).map (·.link.reads) = some 0 := by
  decide

/-- TickInErrorStops and TickInStandbyContinues. -/
theorem test_witness_resting_states :
    (inState .mask02 .error int100 [] []).ctrl = .error ∧ (inState .mask02 .standby int100 [] []).ctrl = .standby :=
  ⟨rfl, rfl⟩

/-- TickInEngagedExchanges, at distance 4 (V-FSM-6) and 5 (V-FSM-7). -/
theorem test_witness_engaged :
    (inState .mask02 .engaged int100 [.ok] [ackb 0 104 0 0 0]).intent.valid = true ∧
    txAnswer (inState .mask02 .engaged int100 [.ok] [ackb 0 104 0 0 0]) = .ok ∧
    (rxAnswer (inState .mask02 .engaged int100 [.ok] [ackb 0 104 0 0 0])).length = 12 ∧
    (nextOf (exec .tick (inState .mask02 .engaged int100 [.ok] [ackb 0 104 0 0 0]))).map (·.ctrl) = some .armed ∧
    (nextOf (exec .tick (inState .mask02 .engaged int100 [.ok] [ackb 0 105 0 0 0]))).map (·.ctrl) =
      some .engaged := by decide

/-- TickInArmedExchanges, at distance 4 (V-FSM-5) and 5 (V-FSM-4). -/
theorem test_witness_armed :
    (inState .mask02 .armed int100 [.ok] [ackb 0 96 0 0 0]).intent.valid = true ∧
    txAnswer (inState .mask02 .armed int100 [.ok] [ackb 0 96 0 0 0]) = .ok ∧
    (rxAnswer (inState .mask02 .armed int100 [.ok] [ackb 0 96 0 0 0])).length = 12 ∧
    (nextOf (exec .tick (inState .mask02 .armed int100 [.ok] [ackb 0 96 0 0 0]))).map (·.ctrl) = some .armed ∧
    (nextOf (exec .tick (inState .mask02 .armed int100 [.ok] [ackb 0 95 0 0 0]))).map (·.ctrl) =
      some .engaged := by decide

/-- WriteFailureEntersError (V-FSM-14). -/
theorem test_witness_write_failure :
    exchanges (inState .mask02 .engaged ⟨true, false, 300⟩ [.err] []) ∧
    txAnswer (inState .mask02 .engaged ⟨true, false, 300⟩ [.err] []) = .err ∧
    (nextOf (exec .tick (inState .mask02 .engaged ⟨true, false, 300⟩ [.err] []))).map
      (fun t => (t.errCause, t.link.reads)) = some (2, 0) :=
  ⟨.inl rfl, rfl, by decide⟩

/-- DecodeFailureEntersError, with an answer of eleven bytes (V-FSM-13). -/
theorem test_witness_decode_failure :
    exchanges (inState .mask02 .armed int100 [.ok] [List.replicate 11 0]) ∧
    txAnswer (inState .mask02 .armed int100 [.ok] [List.replicate 11 0]) = .ok ∧
    (rxAnswer (inState .mask02 .armed int100 [.ok] [List.replicate 11 0])).length < 12 ∧
    (nextOf (exec .tick (inState .mask02 .armed int100 [.ok] [List.replicate 11 0]))).map
      (fun t => (t.ctrl, t.errCause)) = some (.error, 1) :=
  ⟨.inr rfl, rfl, by decide, by decide⟩

/-- OverlongReadAnswerIsRefused, with thirteen bytes (V-FSM-23). -/
theorem test_witness_overlong_answer :
    exchanges (inState .mask02 .armed int100 [.ok] [List.replicate 13 0]) ∧
    txAnswer (inState .mask02 .armed int100 [.ok] [List.replicate 13 0]) = .ok ∧
    12 < (rxAnswer (inState .mask02 .armed int100 [.ok] [List.replicate 13 0])).length :=
  ⟨.inr rfl, rfl, by decide⟩

/-- ModelFaults: the intent is unset after reset (V-FSM-17), and no Ack is held (the read of a field). -/
theorem test_witness_model_faults :
    exchanges State.reset ∧ State.reset.intent.valid = false ∧
    (presented [.read .ackSlip] State.reset).inbox = [.read .ackSlip] ∧
    readValid .ackSlip (presented [.read .ackSlip] State.reset) = false :=
  ⟨.inr rfl, rfl, rfl, rfl⟩

/-- TransitionTable: distances 4 and 5 from the sentinel, and the largest distance. -/
theorem test_witness_transitions :
    |((3 : Half).toNat : Int) - -1| < 5 ∧ 5 ≤ |((4 : Half).toNat : Int) - -1| ∧
    |((65535 : Half).toNat : Int) - -1| = 65536 ∧ (2 : BitVec 2) ≠ 1 := by decide

/-- TickStopsExactlyInError and TickSendsOneFrameAndReadsAtMostOnce: a TICK that answers, from a state that
exchanges and from one that does not. -/
theorem test_witness_ticks :
    (nextOf (exec .tick (inState .mask02 .engaged int100 [.err] []))).map (·.tickResult) = some ⟨true, false⟩ ∧
    (nextOf (exec .tick (inState .mask02 .standby int100 [] []))).map (·.tickResult) = some ⟨true, true⟩ := by decide

/-- SlipOneMovesToStandby (V-FSM-20). -/
theorem test_witness_slip :
    exchanges (inState .mask03 .engaged int100 [.ok] [ackb 1 100 0 0 0]) ∧
    txAnswer (inState .mask03 .engaged int100 [.ok] [ackb 1 100 0 0 0]) = .ok ∧
    (rxAnswer (inState .mask03 .engaged int100 [.ok] [ackb 1 100 0 0 0])).length = 12 ∧
    (byteAt (rxAnswer (inState .mask03 .engaged int100 [.ok] [ackb 1 100 0 0 0])) 5).toNat % 4 = 1 :=
  ⟨.inl rfl, rfl, by decide, by decide⟩

/-- The state in which `ENCSSN` has run and `FRAME[10]` is read next. -/
def afterEncssn (e : Element) : State :=
  presented [.read e] (resultFrame (encoderUpdate (ssnPayload 1) State.reset))

/-- HostReadsFollowTheValidConditions, HostReadAnswers: the last offset that has a value and the first that has
none (V-ENC-26). -/
theorem test_witness_host_reads :
    readValid (.frameByte 10) (afterEncssn (.frameByte 10)) = true ∧
    readValid (.frameByte 11) (afterEncssn (.frameByte 11)) = false ∧
    (nextOf (step (afterEncssn (.frameByte 10)))).map (·.readout) = some (some 0x55) ∧
    (afterEncssn .accAdd).frameLen ≠ 0 ∧ Memory.read (afterEncssn .accAdd).frame 10 = some 0x55 := by decide

/-- HostReadsFollowTheValidConditions: reset with a read presented meets the invariant. -/
theorem test_witness_host_read_invariant : BlockInv (presented [.read .state] State.reset) where
  frameCanonical := rfl
  frameLenLegal := .inl rfl
  frameHeld := fun _ => rfl
  frameHead := fun h => absurd rfl h
  accumulators := fun h => absurd rfl h
  pollTarget := by decide
  causeLegal := .inl rfl
  causeInError := by decide
  errorStopped := by decide
  othersContinue := by decide
  movedByAck := by decide
  standbySlip := by decide
  slipUnderMask02 := by decide
  engagedIsAlarmBit := by decide

/-- HostReadAnswers: a state in which ACK and TICK_RESULT are valid. -/
theorem test_witness_valid_ack :
    (nextOf (exec .tick (inState .mask02 .armed int100 [.ok] [ackb 0 100 0 0 0]))).map
      (fun t => (t.ack.valid, t.tickResult.valid)) = some (true, true) := by decide

/-- ReservedWordsAreRefused: a word for each clause of R90 and one that is not reserved. -/
theorem test_witness_reserved :
    reservedWord 0x00000000 ∧ reservedWord 0x80000000 ∧ reservedWord 0x70020000 ∧ reservedWord 0x70010000 ∧
    reservedWord 0x40010001 ∧ reservedWord 0x50000001 ∧ reservedWord 0x10000100 ∧ ¬ reservedWord 0x4000FFFF :=
  ⟨by decide, by decide, by decide, by decide, by decide, by decide, by decide, by decide⟩

/-- OneRowPerWord: a word that a row selects. -/
theorem test_witness_row : ∃ r ∈ opRows, (0x100000AA : Word) &&& r.mask = r.pattern := by decide

/-- DataPortUse: a word of each kind, and DATA at the boundaries. -/
theorem test_witness_data_port :
    ¬ reservedWord 0x10000000 ∧ readsData 0x10000000 ∧ ¬ reservedWord 0x30000000 ∧ ¬ readsData 0x30000000 ∧
    (presented [cmd 0x30000000 [0]] State.reset).inbox = [.transaction (.command 0x30000000 [0])] := by
  decide

/-- DecodeOfEncodeIsIdentity: an instruction with DATA of the greatest length (EncodeOfDecodeIsIdentity: the
decode tests above). -/
theorem test_witness_round_trip : (Instr.chkadd 0xFF (List.replicate 255 0xFF)).wellFormed = true := by
  decide +kernel

/-- AssemblerTargets: the values next to the admitted ones (V-ENC-22). -/
theorem test_witness_targets :
    assemble (.encpos (-2)) = .error .badOperand ∧ assemble (.encpos 65536) = .error .badOperand ∧
    assemble (.setint 65535) = .ok (.setint 65535) := by decide

/-- StepRunsTheDecodedInstruction. -/
theorem test_witness_decoded :
    (presented [cmd 0x70000000 []] State.reset).inbox = [.transaction (.command 0x70000000 [])] ∧
    decode (.command 0x70000000 []) = .ok .tick ∧ decodeTableWord 32 0x70000000 = some .tick := by decide

/-- RejectedTransactionsAreRefused: a transaction for each rejection. -/
theorem test_witness_rejections :
    decode (.command 0xF0000000 []) = .error .reservedWord ∧ decode (.command 0x70000000 [0]) = .error .badOperand ∧
    decode (.wire []) = .error .notAFrame ∧
    (presented [.transaction (.wire [])] State.reset).inbox = [.transaction (.wire [])] := by decide

/-- DeliveredAckIsDecoded, for each value of `SLIP_MASK`. -/
theorem test_witness_no_answer_listed :
    State.reset.link.rxQueue = [] ∧ State.reset.params.slipMask = .mask02 ∧
    (resetWith ⟨1, .mask03⟩ [] [] []).link.rxQueue = [] ∧
    (resetWith ⟨1, .mask03⟩ [] [] []).params.slipMask = .mask03 := ⟨rfl, rfl, rfl, rfl⟩

end Sys2Proof.Tests
end

section
/-! PROOFS. The block's state (spec/10_state.md): what each instruction can write (R34), and the invariant that reset
establishes and every step keeps. -/

namespace Sys2Proof.Machine

/-! ## What an instruction can do -/

/-- A checksum command that answers drives the result port alone (R113, R114). -/
theorem checksumResult_next {data : List Byte} {b : Byte} {s t : State}
    (h : checksumResult data b s = .next t) : t = { s with result := .byte b } := by
  unfold checksumResult at h
  split at h
  · exact (Host.Outcome.next.inj h).symm
  · cases h

/-- DECACK, where it answers, drives the result port alone (R153). -/
theorem execDecack_next {data : List Byte} {s t : State} (h : execDecack data s = .next t) :
    t = { s with result := .ack (decodeAck s.params.slipMask data) } := by
  unfold execDecack at h
  split at h
  · exact (Host.Outcome.next.inj h).symm
  · cases h

/-- An encoder command loads the frame of its payload and answers it (R133 to R136). -/
theorem encodePayload_next {p : List Byte} {s t : State} (h : encodePayload p s = .next t) :
    t = resultFrame (encoderUpdate p s) :=
  (Host.Outcome.next.inj h).symm

/-- Everything an instruction can do when it answers a next state: RESULT alone, the encoder's registers with a
payload of 6 or 15 bytes, INTENT, a tick, or a frame on the link, which is no transaction of the block. -/
theorem exec_cases {i : Instr} {s t : State} (h : exec i s = .next t) :
    (∃ r, t = { s with result := r }) ∨
    (∃ p : List Byte, (p.length = 6 ∨ p.length = 15) ∧ t = resultFrame (encoderUpdate p s)) ∨
    (∃ n : Intent, (i = .setpoll ∧ n = ⟨true, true, 0⟩ ∨ ∃ v, i = .setint v ∧ n = ⟨true, false, v⟩) ∧
      t = { s with intent := n, result := .nothing }) ∨
    (i = .tick ∧ execTick s = .next t) ∨
    (∃ l : Link, t = { s with link := l } ∧ l.writes = s.link.writes ∧ l.reads = s.link.reads) := by
  cases i with
  | chkadd seed data => exact .inl ⟨_, checksumResult_next h⟩
  | chkxor seed data => exact .inl ⟨_, checksumResult_next h⟩
  | decack data => exact .inl ⟨_, execDecack_next h⟩
  | encssn => exact .inr (.inl ⟨_, .inl (ssnPayload_length _), encodePayload_next h⟩)
  | encpos target => exact .inr (.inl ⟨_, .inr (posPayload_length _ _), encodePayload_next h⟩)
  | encpoll => exact .inr (.inl ⟨_, .inr (posPayload_length _ _), encodePayload_next h⟩)
  | setint v => exact .inr (.inr (.inl ⟨_, .inr ⟨v, rfl, rfl⟩, (Host.Outcome.next.inj h).symm⟩))
  | setpoll => exact .inr (.inr (.inl ⟨_, .inl ⟨rfl, rfl⟩, (Host.Outcome.next.inj h).symm⟩))
  | tick => exact .inr (.inr (.inr (.inl ⟨rfl, h⟩)))
  | ssnFrame n c a x => exact .inr (.inr (.inr (.inr ⟨_, (Host.Outcome.next.inj h).symm, rfl, rfl⟩)))
  | posFrame l hi a x => exact .inr (.inr (.inr (.inr ⟨_, (Host.Outcome.next.inj h).symm, rfl, rfl⟩)))
  | pollFrame => exact .inr (.inr (.inr (.inr ⟨_, (Host.Outcome.next.inj h).symm, rfl, rfl⟩)))
  | ackFrame raw => exact .inr (.inr (.inr (.inr ⟨_, (Host.Outcome.next.inj h).symm, rfl, rfl⟩)))

/-! ## The checksum unit, the status byte and the transition -/

theorem foldl_accStep (l : List Byte) (a x : Byte) :
    l.foldl accStep (a, x) = (sum8 l a, xor8 l x) := by
  induction l generalizing a x with
  | nil => rfl
  | cons b l ih => exact ih (a + b) (x ^^^ b)

/-- The accumulators end at the two checksums of the payload (R110 to R112). -/
theorem accumulate_eq (p : List Byte) :
    accumulate p = (sum8 p Config.seedAdd, xor8 p Config.seedXor) :=
  foldl_accStep p _ _

/-- Under `SLIP_MASK = 0x02` only bit 1 of the status byte reaches slip (R86). -/
theorem slipOf_mask02 (b : Byte) : slipOf .mask02 b = 0 ∨ slipOf .mask02 b = 2 := by
  cases hb : b[1]
  · left
    ext i hi
    interval_cases i <;> simp [slipOf, SlipMask.bits, hb]
  · right
    ext i hi
    interval_cases i <;> simp [slipOf, SlipMask.bits, hb]

/-- Bit 0 of the status byte is the engaged bit and bit 0 of alarm (R86). -/
theorem engagedOf_eq_alarmOf_bit (b : Byte) : engagedOf b = (alarmOf b).getLsbD 0 := by
  have hbit : b &&& 1#8 = 1#8 ↔ b[0] = true := by
    rw [BitVec.and_one_eq_setWidth_ofBool_getLsbD]
    cases hb : b[0] <;> simp [hb]
  rw [Bool.eq_iff_iff]
  simp [engagedOf, alarmOf, hbit]

/-- From ENGAGED and ARMED the transition goes to STANDBY exactly on slip 1, and never to ERROR (R179). -/
theorem nextState_of_exchanging {c : CtrlState} (hc : c = .engaged ∨ c = .armed) (tgt : Int) (pos : Half)
    (slip : BitVec 2) :
    nextState c tgt pos slip ≠ .error ∧ (nextState c tgt pos slip = .standby → slip = 1) := by
  unfold nextState
  split
  · next hs => exact ⟨nofun, fun _ => hs⟩
  · rcases hc with rfl | rfl <;> (simp only [toleranceState]; split <;> exact ⟨nofun, nofun⟩)

end Sys2Proof.Machine

namespace Sys2Proof.Safety

open Sys2Proof.Machine

variable {s t : State}

/-! ## The invariant at reset -/

/-- Right after reset the invariant holds, whatever the parameters, the host and the transport hold (R240, R241). -/
theorem blockInv_reset (p : Params) (r : Option (BitVec 16)) (events : List Event) (l : Link) :
    BlockInv { State.reset with params := p, readout := r, inbox := events, link := l } where
  frameCanonical := rfl
  frameLenLegal := .inl rfl
  frameHeld := fun _ => rfl
  frameHead := fun h => absurd rfl h
  accumulators := fun h => absurd rfl h
  pollTarget := nofun
  causeLegal := .inl rfl
  causeInError := by simp [State.reset]
  errorStopped := nofun
  othersContinue := nofun
  movedByAck := by simp [State.reset]
  standbySlip := nofun
  slipUnderMask02 := nofun
  engagedIsAlarmBit := nofun

/-! ## What keeps the invariant -/

/-- The ports and the transport are no part of the invariant. -/
theorem blockInv_setPorts (h : BlockInv s) (r : CmdResult) (o : Option (BitVec 16)) (events : List Event)
    (l : Link) : BlockInv { s with result := r, readout := o, inbox := events, link := l } :=
  { h with }

/-- The encoder's register update leaves a whole frame in the registers (R27, R28, R133). -/
theorem blockInv_encoderUpdate (h : BlockInv s) {p : List Byte} (hp : p.length = 6 ∨ p.length = 15) :
    BlockInv (encoderUpdate p s) := by
  have hlen : (encoderUpdate p s).frameLen.toNat = p.length + 5 := by
    rcases hp with hp | hp <;> simp [hp]
  exact { h with
    frameCanonical := encoderUpdate_frame_wf p s (by omega)
    frameLenLegal := by rcases hp with hp | hp <;> simp [hp]
    frameHeld := fun i => by
      rw [hlen, encoderUpdate_frame, memory_read_load, ← makeFrame_length, Bool.eq_iff_iff]
      simp
    frameHead := fun _ => by
      rw [hlen]; simp [makeFrame, Config.sync0, Config.sync1]
    accumulators := fun _ => by
      rw [hlen]; simp [makeFrame, accumulate_eq] }

/-- What a tick sends stays in FRAME as a whole frame (R178). -/
theorem blockInv_sendFrame (h : BlockInv s) (poll : Bool) (target : Half) :
    BlockInv (sendFrame poll target s) := by
  have henc := blockInv_encoderUpdate h (.inr (posPayload_length poll target))
  rw [sendFrame_eq]
  exact blockInv_setPorts henc _ _ _ _

theorem blockInv_rxRead (h : BlockInv s) : BlockInv (rxRead s) :=
  blockInv_setPorts h _ _ _ _

/-- An intent that is held, with target 0 where it is a poll, may replace any other (R23, R170, R171). -/
theorem blockInv_setIntent (h : BlockInv s) {n : Intent} (hv : n.valid = true)
    (hp : n.poll = true → n.target = 0) : BlockInv { s with intent := n } :=
  { h with
    pollTarget := fun _ => hp
    movedByAck := fun hc => by
      obtain ⟨htick, hack, -⟩ := h.movedByAck hc
      exact ⟨htick, hack, hv⟩ }

/-- The end of a tick keeps the invariant where the tick stops exactly in ERROR (R174, R177). -/
theorem blockInv_finishTick (h : BlockInv s) {c : Bool} (hc : c = true ↔ s.ctrl ≠ .error) :
    BlockInv (finishTick c s) :=
  { h with
    errorStopped := fun he => by
      have hstop : c = false := by simpa [show s.ctrl = .error from he] using hc
      exact ⟨by simp [hstop], (h.errorStopped he).2⟩
    othersContinue := fun he _ => hc.2 he
    movedByAck := fun hm => by
      obtain ⟨-, hack, hintent⟩ := h.movedByAck hm
      exact ⟨rfl, hack, hintent⟩ }

/-- A failed exchange enters ERROR with a cause, a stopped tick and no Ack (R180, R212, R213). -/
theorem blockInv_failExchange (h : BlockInv s) {c : Cause}
    (hc : c = .ackDecodeFailure ∨ c = .transportWriteFailure) : BlockInv (failExchange c s) :=
  { h with
    causeLegal := by rcases hc with rfl | rfl <;> simp [causeCode]
    causeInError := by rcases hc with rfl | rfl <;> simp [causeCode]
    errorStopped := fun _ => ⟨rfl, rfl⟩
    othersContinue := fun he => absurd rfl he
    movedByAck := by simp
    standbySlip := nofun
    slipUnderMask02 := nofun
    engagedIsAlarmBit := nofun }

/-- An accepted Ack moves STATE by R179 and leaves no ERROR (R178). -/
theorem blockInv_acceptAck (h : BlockInv s) (hc : s.ctrl = .engaged ∨ s.ctrl = .armed)
    (hv : s.intent.valid = true) (tgt : Int) (raw : List Byte) :
    BlockInv (acceptAck tgt (extract s.params.slipMask raw) s) := by
  obtain ⟨hne, hslip⟩ := nextState_of_exchanging hc tgt (extract s.params.slipMask raw).position
    (extract s.params.slipMask raw).slip
  have hok : s.ctrl ≠ .error := by rcases hc with hc | hc <;> simp [hc]
  have hcause : s.errCause = 0 := by simpa [hok] using h.causeInError
  exact { h with
    causeInError := by simp [hne, hcause]
    errorStopped := fun he => absurd he hne
    othersContinue := fun _ _ => rfl
    movedByAck := fun _ => ⟨rfl, rfl, hv⟩
    standbySlip := hslip
    slipUnderMask02 := fun hm _ => by
      rw [acceptAck_params] at hm
      simpa [extract, hm] using slipOf_mask02 (byteAt raw 5)
    engagedIsAlarmBit := fun _ => engagedOf_eq_alarmOf_bit (byteAt raw 5) }

/-- An exchange in ENGAGED or ARMED under a held intent keeps the invariant, however it ends (R178). -/
theorem blockInv_exchange (h : BlockInv s) (hc : s.ctrl = .engaged ∨ s.ctrl = .armed)
    (hv : s.intent.valid = true) {poll : Bool} {target : Half} {tgt : Int}
    (he : exchange poll target tgt s = .next t) : BlockInv t := by
  have hsent := blockInv_sendFrame h poll target
  rcases exchange_cases he with ⟨-, rfl⟩ | ⟨-, -, rfl⟩ | ⟨-, -, rfl⟩
  · exact blockInv_failExchange hsent (.inr rfl)
  · exact blockInv_failExchange (blockInv_rxRead hsent) (.inl rfl)
  · exact blockInv_acceptAck (blockInv_rxRead hsent) hc hv tgt _

theorem blockInv_execTick (h : BlockInv s) (he : execTick s = .next t) : BlockInv t := by
  rcases execTick_cases he with ⟨hc, rfl⟩ | ⟨hc, rfl⟩ | ⟨hc, hv, hx⟩ | ⟨hc, hv, hx⟩
  · exact blockInv_finishTick h (by simp [hc])
  · exact blockInv_finishTick h (by simp [hc])
  · exact blockInv_exchange h (.inl hc) hv hx
  · exact blockInv_exchange h (.inr hc) hv hx

/-- Every instruction keeps the invariant. -/
theorem blockInv_exec (h : BlockInv s) {i : Instr} (he : exec i s = .next t) : BlockInv t := by
  rcases exec_cases he with ⟨r, rfl⟩ | ⟨p, hp, rfl⟩ | ⟨n, hn, rfl⟩ | ⟨-, hx⟩ | ⟨l, rfl, -, -⟩
  · exact blockInv_setPorts h _ _ _ _
  · exact blockInv_setPorts (blockInv_encoderUpdate h hp) _ _ _ _
  · have hset : BlockInv { s with intent := n } := by
      rcases hn with ⟨-, rfl⟩ | ⟨v, -, rfl⟩
      · exact blockInv_setIntent h rfl fun _ => rfl
      · exact blockInv_setIntent h rfl nofun
    exact blockInv_setPorts hset _ _ _ _
  · exact blockInv_execTick h hx
  · exact blockInv_setPorts h _ _ _ _

/-- Settles O4: each kind of step is one of the operations above, and each of them keeps the invariant. -/
theorem stepKeepsTheInvariant : Obligations.StepKeepsTheInvariant := by
  intro s t h hstep
  rcases step_cases hstep with ⟨-, rfl⟩ | ⟨x, i, rest, -, -, he⟩ | ⟨e, v, rest, -, -, rfl⟩ | ⟨rest, -, rfl⟩
  · exact h
  · exact blockInv_exec (blockInv_setPorts h _ _ rest _) he
  · exact blockInv_setPorts h _ _ _ _
  · exact blockInv_reset _ _ _ _

/-- Settles O3: reset writes every element that the invariant speaks of. -/
theorem resetMeetsTheInvariant : Obligations.ResetMeetsTheInvariant :=
  ⟨blockInv_reset _ _ _ _, fun _ _ _ _ => blockInv_reset _ _ _ _⟩

/-! ## What a step changes -/

/-- A tick keeps the parameters (R31). -/
theorem execTick_params (h : execTick s = .next t) : t.params = s.params := by
  rcases execTick_cases h with ⟨-, rfl⟩ | ⟨-, rfl⟩ | ⟨-, -, hx⟩ | ⟨-, -, hx⟩
  · rfl
  · rfl
  all_goals rcases exchange_cases hx with ⟨-, rfl⟩ | ⟨-, -, rfl⟩ | ⟨-, -, rfl⟩ <;> rfl

/-- An instruction keeps the parameters (R31). -/
theorem exec_params {i : Instr} (h : exec i s = .next t) : t.params = s.params := by
  rcases exec_cases h with ⟨r, rfl⟩ | ⟨p, -, rfl⟩ | ⟨n, -, rfl⟩ | ⟨-, hx⟩ | ⟨l, rfl, -, -⟩
  · rfl
  · rfl
  · rfl
  · exact execTick_params hx
  · rfl

/-- Settles O8: neither an instruction, a host read nor RESET writes the parameters. -/
theorem parametersNeverChange : Obligations.ParametersNeverChange := by
  intro s t hstep
  rcases step_cases hstep with ⟨-, rfl⟩ | ⟨x, i, rest, -, -, he⟩ | ⟨e, v, rest, -, -, rfl⟩ | ⟨rest, -, rfl⟩
  · rfl
  · exact (exec_params he :)
  · rfl
  · rfl

/-- An instruction that makes a TxWrite or an RxRead is a TICK in ENGAGED or ARMED (R36, R183). -/
theorem exec_uses_transport {i : Instr} (h : exec i s = .next t)
    (hlink : t.link.writes ≠ s.link.writes ∨ t.link.reads ≠ s.link.reads) : exchanges s ∧ i = .tick := by
  rcases exec_cases h with ⟨r, rfl⟩ | ⟨p, -, rfl⟩ | ⟨n, -, rfl⟩ | ⟨rfl, hx⟩ | ⟨l, rfl, hw, hr⟩
  · simp at hlink
  · simp at hlink
  · simp at hlink
  · rcases execTick_cases hx with ⟨-, rfl⟩ | ⟨-, rfl⟩ | ⟨hc, -⟩ | ⟨hc, -⟩
    · simp at hlink
    · simp at hlink
    · exact ⟨.inl hc, rfl⟩
    · exact ⟨.inr hc, rfl⟩
  · simp [hw, hr] at hlink

/-- Settles O10: of all that a step does, only a TICK that exchanges moves the two counts. -/
theorem onlyTickUsesTheTransport : Obligations.OnlyTickUsesTheTransport := by
  intro s t hstep hlink
  rcases step_cases hstep with ⟨-, rfl⟩ | ⟨x, i, rest, hin, hd, he⟩ | ⟨e, v, rest, -, -, rfl⟩ | ⟨rest, -, rfl⟩
  · simp at hlink
  · obtain ⟨hc, rfl⟩ := exec_uses_transport he hlink
    exact ⟨hc, x, by simp [hin], hd⟩
  · simp at hlink
  · simp at hlink

/-! ## The write matrix (R34) -/

/-- The checksum commands and DECACK drive the result port alone. -/
theorem exec_data_command_frame {seed : Byte} {data : List Byte}
    (h : exec (.chkadd seed data) s = .next t ∨ exec (.chkxor seed data) s = .next t ∨
      exec (.decack data) s = .next t) : t = { s with result := t.result } := by
  rcases h with h | h | h
  · rw [checksumResult_next h]
  · rw [checksumResult_next h]
  · rw [execDecack_next h]

theorem encodePayload_frame {p : List Byte} (h : encodePayload p s = .next t) :
    t = { withEncoder t s with result := t.result } := by
  rw [encodePayload_next h]; rfl

/-- An exchange writes no other element than those of the TICK row, and a cause only on entry to ERROR. -/
theorem exchange_frame {poll : Bool} {target : Half} {tgt : Int} (h : exchange poll target tgt s = .next t) :
    t = { withEncoder t s with
          ctrl := t.ctrl, ack := t.ack, tickResult := t.tickResult, errCause := t.errCause,
          result := t.result, link := t.link } ∧
    (t.ctrl ≠ .error → t.errCause = s.errCause) := by
  rcases exchange_cases h with ⟨-, rfl⟩ | ⟨-, -, rfl⟩ | ⟨-, -, rfl⟩
  · exact ⟨rfl, fun hne => absurd rfl hne⟩
  · exact ⟨rfl, fun hne => absurd rfl hne⟩
  · exact ⟨rfl, fun _ => rfl⟩

/-- A tick in ERROR or STANDBY writes `TICK_RESULT` and the result port alone (R174, R177). -/
theorem execTick_resting_frame (h : execTick s = .next t) (hc : s.ctrl = .error ∨ s.ctrl = .standby) :
    t = { s with tickResult := t.tickResult, result := t.result } := by
  rcases execTick_cases h with ⟨-, rfl⟩ | ⟨-, rfl⟩ | ⟨he, -⟩ | ⟨ha, -⟩
  · rfl
  · rfl
  · simp [he] at hc
  · simp [ha] at hc

/-- A tick in ENGAGED or ARMED is an exchange (R175, R176). -/
theorem execTick_exchanging (h : execTick s = .next t) (hc : exchanges s) :
    ∃ poll target, exchange poll target (targetInt s.intent) s = .next t := by
  rcases execTick_cases h with ⟨he, -⟩ | ⟨hs, -⟩ | ⟨-, -, hx⟩ | ⟨-, -, hx⟩
  · simp [exchanges, he] at hc
  · simp [exchanges, hs] at hc
  · exact ⟨_, _, hx⟩
  · exact ⟨_, _, hx⟩

/-- Settles O12: the frame of each row of R34, and of the wire frames. -/
theorem instructionsWriteOnlyTheirElements : Obligations.InstructionsWriteOnlyTheirElements := by
  intro s t
  refine ⟨fun seed data h => exec_data_command_frame h, fun target h => ?_, fun target h => ?_,
    fun h hc => execTick_resting_frame h hc, fun h hc => ?_, fun n c a x raw h => ?_⟩
  · rcases h with h | h | h <;> exact encodePayload_frame h
  · rcases h with h | h <;> rw [← Host.Outcome.next.inj h]
  · obtain ⟨poll, target, hx⟩ := execTick_exchanging h hc
    exact exchange_frame hx
  · rcases h with h | h | h | h <;> rw [← Host.Outcome.next.inj h] <;> rfl

/-! ## The host's reads (R33) -/

/-- A read of an element that has a value answers it. -/
theorem hostRead_of_value {e : Element} {v : BitVec 16} (h : elementValue e s = some v) :
    hostRead e s = .next { s with readout := some v } := by
  simp [hostRead, h]

/-- A read of an element that has no value is `READ_INVALID` (R217). -/
theorem hostRead_of_none {e : Element} (h : elementValue e s = none) : hostRead e s = .fault .readInvalid := by
  simp [hostRead, h]

theorem readWhen_isSome (c : Bool) (v : BitVec 16) : (readWhen c v).isSome = c := by
  cases c <;> rfl

/-- Under the invariant an element has a value exactly where its valid condition holds: of FRAME, at the offsets
below `FRAME_LEN` (R27, R33). -/
theorem elementValue_isSome (h : BlockInv s) (e : Element) : (elementValue e s).isSome = readValid e s := by
  cases e with
  | frameByte i =>
    by_cases hi : i < s.frameLen.toNat
    · simp [elementValue, readValid, hi, h.frameHeld i]
    · simp [elementValue, readValid, hi]
  | state | ackValid | tickValid | errCause | frameLen => rfl
  | ackEngaged | ackSlip | ackAlarm | ackPosition | ackVoltage | ackTorque | tickCont | accAdd | accXor =>
    exact readWhen_isSome _ _

/-- A host read answers where the valid condition holds. -/
theorem hostRead_of_readValid (h : BlockInv s) {e : Element} (hv : readValid e s = true) :
    ∃ v, hostRead e s = .next { s with readout := some v } := by
  obtain ⟨v, hval⟩ := Option.isSome_iff_exists.1 ((elementValue_isSome h e).trans hv)
  exact ⟨v, hostRead_of_value hval⟩

/-- A host read faults where it does not (R217). -/
theorem hostRead_of_not_readValid (h : BlockInv s) {e : Element} (hv : readValid e s = false) :
    hostRead e s = .fault .readInvalid :=
  hostRead_of_none (by simpa [hv] using elementValue_isSome h e)

/-- A host read presented first is performed with the rest left in the queue. -/
theorem step_of_read {e : Element} {rest : List Event} (h : s.inbox = .read e :: rest) :
    step s = hostRead e { s with inbox := rest } := by
  simp only [step, runPort, h, runEvent]

/-- No valid condition looks at what is presented. -/
theorem readValid_setInbox (e : Element) (s : State) (rest : List Event) :
    readValid e { s with inbox := rest } = readValid e s := by
  cases e <;> rfl

/-- Settles O43: the read is performed in a state that meets the invariant too. -/
theorem hostReadsFollowTheValidConditions : Obligations.HostReadsFollowTheValidConditions := by
  intro s e rest h hin
  have hrest : BlockInv { s with inbox := rest } := blockInv_setPorts h _ _ rest _
  rw [step_of_read hin, ← readValid_setInbox e s rest]
  exact ⟨hostRead_of_readValid hrest, hostRead_of_not_readValid hrest⟩

/-- Settles O1: the values stand in `State.reset`, and it meets the invariant. -/
theorem resetLeavesTheGivenValues : Obligations.ResetLeavesTheGivenValues :=
  ⟨rfl, rfl, rfl, rfl, rfl, rfl, fun _ => rfl,
    fun _ hv => hostRead_of_not_readValid resetMeetsTheInvariant.1 hv⟩

/-- Settles O44: each clause is the value of its element. -/
theorem hostReadAnswers : Obligations.HostReadAnswers := by
  intro s
  refine ⟨hostRead_of_value ?_, hostRead_of_value rfl, hostRead_of_value rfl, hostRead_of_value rfl,
    hostRead_of_value rfl, fun ht => hostRead_of_value ?_, fun ha => ?_, fun hf => ?_,
    fun i b hi hb => hostRead_of_value ?_⟩
  · cases hc : s.ctrl <;> simp [elementValue, ctrlCode, hc]
  · simp [elementValue, readWhen, ht, bitOut]
  · refine ⟨hostRead_of_value ?_, hostRead_of_value ?_, hostRead_of_value ?_, hostRead_of_value ?_,
      hostRead_of_value ?_, hostRead_of_value ?_⟩ <;> simp [elementValue, readWhen, ha, bitOut]
  · exact ⟨hostRead_of_value (if_pos (bne_iff_ne.2 hf)), hostRead_of_value (if_pos (bne_iff_ne.2 hf))⟩
  · simp [elementValue, hi, hb]

end Sys2Proof.Safety
end

section
/-! PROOFS. The transport's answers (spec/20_memory.md): a read answer that R66 does not allow is refused (R218). -/

namespace Sys2Proof.Machine

/-- TICK runs the arms of R173. -/
theorem exec_tick (s : State) : exec .tick s = execTick s := rfl

/-- A write answered OK is followed by the read (R178). -/
theorem exchange_of_txAnswer_ok {s : State} (hw : txAnswer s = .ok) (poll : Bool) (t : Half) (tgt : Int) :
    exchange poll t tgt s = receiveAck tgt (sendFrame poll t s) := by
  simp only [exchange, hw]

/-- An exchange whose read is answered with more than twelve bytes is refused, whatever frame it sent (R66, R218). -/
theorem exchange_of_overlong {s : State} (hw : txAnswer s = .ok) (hlong : 12 < (rxAnswer s).length)
    (poll : Bool) (t : Half) (tgt : Int) : exchange poll t tgt s = .refused .badEnvironment := by
  rw [exchange_of_txAnswer_ok hw]
  exact receiveAck_of_overlong tgt _ (by simpa using hlong)

end Sys2Proof.Machine

namespace Sys2Proof.Safety

open Sys2Proof.Machine

/-- Settles O36: in either state the tick is an exchange, and the exchange is refused. -/
theorem overlongReadAnswerIsRefused : Obligations.OverlongReadAnswerIsRefused := by
  intro s hc hv hw hlong
  rw [exec_tick]
  rcases hc with hc | hc
  · rw [execTick_engaged s hc hv]
    exact exchange_of_overlong hw hlong _ _ _
  · rw [execTick_armed s hc hv]
    exact exchange_of_overlong hw hlong _ _ _

end Sys2Proof.Safety
end

section
/-! PROOFS. The encodings (spec/30_encoding.md): the opcode map (R88), the reserved words (R90), the `DATA` law (R91),
the frame layouts (R80 to R85), and that the decoder and the encoder undo each other. -/

namespace Sys2Proof

open Machine Safety

/-! ## The opcode map (R88) -/

theorem opRow_selects_iff (r : OpRow) (cmd : Word) : r.selects cmd = true ↔ cmd &&& r.mask = r.pattern :=
  beq_iff_eq

/-- Two rows of the map whose patterns agree on the bits that both masks fix are the same row. -/
theorem opRow_eq_of_common_bits : ∀ r ∈ opRows, ∀ r' ∈ opRows,
    r.pattern &&& r'.mask = r'.pattern &&& r.mask → r = r' := by decide

theorem opRow_eq_of_matches {cmd : Word} {r r' : OpRow} (hr : r ∈ opRows) (hr' : r' ∈ opRows)
    (h : cmd &&& r.mask = r.pattern) (h' : cmd &&& r'.mask = r'.pattern) : r = r' := by
  apply opRow_eq_of_common_bits r hr r' hr'
  rw [← h, ← h']
  ac_rfl

/-- The row a word matches is the one the decoder finds, whatever the order of the rows. -/
theorem opRows_find?_of_matches {cmd : Word} {r : OpRow} (hr : r ∈ opRows) (h : cmd &&& r.mask = r.pattern) :
    opRows.find? (fun r => r.selects cmd) = some r := by
  have hsome : (opRows.find? fun r => r.selects cmd).isSome = true :=
    List.find?_isSome.2 ⟨r, hr, (opRow_selects_iff r cmd).2 h⟩
  obtain ⟨r', hfind⟩ := Option.isSome_iff_exists.1 hsome
  have hsel : r'.selects cmd = true := by simpa using List.find?_some hfind
  rw [hfind, opRow_eq_of_matches hr (List.mem_of_find?_eq_some hfind) h ((opRow_selects_iff r' cmd).1 hsel)]

/-! ## The decoder of command words -/

theorem decodeCommand_of_row {cmd : Word} {r : OpRow} (hr : r ∈ opRows) (h : cmd &&& r.mask = r.pattern)
    (data : List Byte) :
    decodeCommand cmd data =
      if dataAdmitted r.takesData data then .ok (buildCommand r.kind cmd data) else .error .badOperand := by
  simp only [decodeCommand, opRows_find?_of_matches hr h]

theorem decodeCommand_of_no_row {cmd : Word} (h : ∀ r ∈ opRows, cmd &&& r.mask ≠ r.pattern) (data : List Byte) :
    decodeCommand cmd data = .error .reservedWord := by
  have hfind : opRows.find? (fun r => r.selects cmd) = none :=
    List.find?_eq_none.2 fun r hr hsel => h r hr ((opRow_selects_iff r cmd).1 hsel)
  simp only [decodeCommand, hfind]

theorem decodeCommand_reserved_iff (cmd : Word) (data : List Byte) :
    decodeCommand cmd data = .error .reservedWord ↔ ∀ r ∈ opRows, cmd &&& r.mask ≠ r.pattern := by
  refine ⟨fun hres r hr h => ?_, fun h => decodeCommand_of_no_row h data⟩
  rw [decodeCommand_of_row hr h] at hres
  split at hres <;> cases hres

/-- A command that decodes was read from the row its word matches, with a `DATA` that the row admits. -/
theorem decodeCommand_ok {cmd : Word} {data : List Byte} {i : Instr} (hok : decodeCommand cmd data = .ok i) :
    ∃ r ∈ opRows, cmd &&& r.mask = r.pattern ∧ dataAdmitted r.takesData data = true ∧
      i = buildCommand r.kind cmd data := by
  by_cases hrow : ∃ r ∈ opRows, cmd &&& r.mask = r.pattern
  · obtain ⟨r, hr, h⟩ := hrow
    rw [decodeCommand_of_row hr h] at hok
    split at hok
    · next hd => exact ⟨r, hr, h, hd, (Except.ok.inj hok).symm⟩
    · cases hok
  · rw [decodeCommand_of_no_row (by simpa using hrow)] at hok
    cases hok

/-! ## Operands in a command word (R89) -/

/-- How many low bits of a command word are its operand (R88, R89). -/
def operandBits : CmdKind → Nat
  | .chkadd | .chkxor => 8
  | .encpos | .setint => 16
  | .encssn | .encpoll | .decack | .setpoll | .tick => 0

/-- The word whose low `n` bits are set. -/
def operandMask (n : Nat) : Word := (BitVec.allOnes n).setWidth 32

/-- The command of a row with its operand and its `DATA` (R89). -/
def commandOf : (k : CmdKind) → BitVec (operandBits k) → List Byte → Instr
  | .chkadd, seed, data => .chkadd seed data
  | .chkxor, seed, data => .chkxor seed data
  | .encssn, _, _ => .encssn
  | .encpos, target, _ => .encpos target
  | .encpoll, _, _ => .encpoll
  | .decack, _, data => .decack data
  | .setint, target, _ => .setint target
  | .setpoll, _, _ => .setpoll
  | .tick, _, _ => .tick

theorem buildCommand_eq_commandOf (k : CmdKind) (cmd : Word) (data : List Byte) :
    buildCommand k cmd data = commandOf k (cmd.extractLsb' 0 (operandBits k)) data := by
  cases k <;> rfl

/-- A row's mask leaves exactly the operand's bits open. -/
theorem opRow_mask : ∀ r ∈ opRows, r.mask = ~~~operandMask (operandBits r.kind) := by decide

theorem opRow_pattern_and_mask : ∀ r ∈ opRows, r.pattern &&& r.mask = r.pattern := by decide

theorem opRow_pattern_operand : ∀ r ∈ opRows,
    operandBits r.kind ≤ 32 ∧ r.pattern.extractLsb' 0 (operandBits r.kind) = 0#(operandBits r.kind) := by decide

theorem and_operandMask (cmd : Word) (n : Nat) : cmd &&& operandMask n = (cmd.extractLsb' 0 n).setWidth 32 := by
  ext i hi
  simp [operandMask, hi, Bool.and_comm]

theorem setWidth_and_not_operandMask {n : Nat} (x : BitVec n) : x.setWidth 32 &&& ~~~operandMask n = 0#32 := by
  have hx : x.setWidth 32 = x.setWidth 32 &&& operandMask n := by
    rw [operandMask, ← BitVec.setWidth_and, BitVec.and_allOnes]
  rw [hx, BitVec.and_assoc]
  simp

theorem or_setWidth_of_no_bits {n : Nat} (hn : n = 0) (p : Word) (x : BitVec n) : p ||| x.setWidth 32 = p := by
  subst hn
  rw [BitVec.of_length_zero (x := x), BitVec.setWidth_zero, BitVec.or_zero]

/-- A row's pattern with an operand in its low bits matches the row. -/
theorem opRow_matches_operand {r : OpRow} (hr : r ∈ opRows) (x : BitVec (operandBits r.kind)) :
    (r.pattern ||| x.setWidth 32) &&& r.mask = r.pattern := by
  have hopen : x.setWidth 32 &&& r.mask = 0#32 := opRow_mask r hr ▸ setWidth_and_not_operandMask x
  rw [BitVec.and_or_distrib_right, opRow_pattern_and_mask r hr, hopen, BitVec.or_zero]

/-- The operand that was put in the low bits of a row's pattern is read back. -/
theorem operand_of_pattern_or {r : OpRow} (hr : r ∈ opRows) (x : BitVec (operandBits r.kind)) :
    (r.pattern ||| x.setWidth 32).extractLsb' 0 (operandBits r.kind) = x := by
  obtain ⟨hle, hzero⟩ := opRow_pattern_operand r hr
  rw [BitVec.extractLsb'_or, hzero, BitVec.extractLsb'_setWidth_of_le (by omega), BitVec.extractLsb'_eq_self,
    BitVec.zero_or]

/-- A word that matches a row is the row's pattern with the word's operand. -/
theorem pattern_or_operand {cmd : Word} {r : OpRow} (hr : r ∈ opRows) (h : cmd &&& r.mask = r.pattern) :
    r.pattern ||| (cmd.extractLsb' 0 (operandBits r.kind)).setWidth 32 = cmd := by
  rw [← and_operandMask, ← h, opRow_mask r hr, ← BitVec.and_or_distrib_left, BitVec.or_comm, BitVec.or_not_self,
    BitVec.and_allOnes]

/-! ## The `DATA` law (R91) -/

theorem dataFits_iff (data : List Byte) : dataFits data = true ↔ data.length ≤ 255 :=
  decide_eq_true_iff

theorem dataAdmitted_true_iff (data : List Byte) : dataAdmitted true data = true ↔ data.length ≤ 255 :=
  dataFits_iff data

theorem dataAdmitted_false_iff (data : List Byte) : dataAdmitted false data = true ↔ data = [] :=
  List.isEmpty_iff

/-! ## Round trips of command words -/

theorem decodeCommand_pattern_or {r : OpRow} (hr : r ∈ opRows) (x : BitVec (operandBits r.kind))
    {data : List Byte} (hd : dataAdmitted r.takesData data = true) :
    decodeCommand (r.pattern ||| x.setWidth 32) data = .ok (commandOf r.kind x data) := by
  rw [decodeCommand_of_row hr (opRow_matches_operand hr x), if_pos hd, buildCommand_eq_commandOf,
    operand_of_pattern_or hr]

theorem encode_commandOf {r : OpRow} (hr : r ∈ opRows) (x : BitVec (operandBits r.kind)) {data : List Byte}
    (hd : dataAdmitted r.takesData data = true) :
    encode (commandOf r.kind x data) = .command (r.pattern ||| x.setWidth 32) data := by
  have hdata : r.takesData = false → data = [] := fun h => (dataAdmitted_false_iff data).1 (h ▸ hd)
  have hconst : operandBits r.kind = 0 → r.pattern ||| x.setWidth 32 = r.pattern :=
    fun h => or_setWidth_of_no_bits h r.pattern x
  simp only [opRows, List.mem_cons, List.not_mem_nil, or_false] at hr
  obtain rfl | rfl | rfl | rfl | rfl | rfl | rfl | rfl | rfl := hr
  all_goals simp_all [encode, commandOf, operandBits]

theorem encode_of_decodeCommand {cmd : Word} {data : List Byte} {i : Instr}
    (hok : decodeCommand cmd data = .ok i) : encode i = .command cmd data := by
  obtain ⟨r, hr, h, hd, rfl⟩ := decodeCommand_ok hok
  rw [buildCommand_eq_commandOf, encode_commandOf hr _ hd, pattern_or_operand hr h]

/-! ## Wire frames (R80 to R85) -/

theorem wireRow_selects_iff (r : WireRow) (bytes : List Byte) :
    r.selects bytes = true ↔ bytes.length = r.mask.length ∧ List.zipWith (· &&& ·) bytes r.mask = r.pattern := by
  simp [WireRow.selects]

/-- A fixed byte of a frame row is kept whole by the row's mask. -/
theorem byte_and_0xFF (b : Byte) : b &&& 255#8 = b :=
  BitVec.and_allOnes

/-- A byte list of length `n` is its bytes at the offsets below `n`. -/
theorem exists_bytes_of_length {l : List Byte} {n : Nat} (h : l.length = n) :
    ∃ b : Nat → Byte, l = (List.range n).map b :=
  ⟨byteAt l, List.ext_getElem (by simp [h]) fun i hi _ => by simp [byteAt, hi]⟩

theorem decodeWire_ssnFrameBytes (n c a x : Byte) :
    decodeWire (ssnFrameBytes n c a x) = .ok (.ssnFrame n c a x) := by
  simp [decodeWire, wireRows, WireRow.selects, buildFrame, byteAt, ssnFrameBytes, List.replicate]

/-- A position frame has the length of the poll frame too; byte 6, the options, tells them apart. -/
theorem decodeWire_posFrameBytes (l h a x : Byte) :
    decodeWire (posFrameBytes l h a x) = .ok (.posFrame l h a x) := by
  simp [decodeWire, wireRows, WireRow.selects, buildFrame, byteAt, ssnFrameBytes, posFrameBytes, List.replicate]

theorem decodeWire_pollFrameBytes : decodeWire pollFrameBytes = .ok .pollFrame := by decide

theorem decodeWire_ackFrameBytes (raw : AckBytes) : decodeWire (ackFrameBytes raw) = .ok (.ackFrame raw) := by
  simp [decodeWire, wireRows, WireRow.selects, buildFrame, byteAt, ssnFrameBytes, posFrameBytes, pollFrameBytes,
    ackFrameBytes, List.replicate]

/-- The frame built from the bytes that a row selects is encoded as those bytes. -/
theorem encode_buildFrame {bytes : List Byte} {r : WireRow} (hr : r ∈ wireRows) (h : r.selects bytes = true) :
    encode (buildFrame r.kind bytes) = .wire bytes := by
  obtain ⟨hlen, hfix⟩ := (wireRow_selects_iff r bytes).1 h
  simp only [wireRows, List.mem_cons, List.not_mem_nil, or_false] at hr
  obtain rfl | rfl | rfl | rfl := hr
  all_goals
    obtain ⟨b, rfl⟩ := exists_bytes_of_length hlen
    simp [List.range_succ, ssnFrameBytes, posFrameBytes, pollFrameBytes, List.replicate, byte_and_0xFF] at hfix
    simp [encode, buildFrame, byteAt, ssnFrameBytes, posFrameBytes, pollFrameBytes, ackFrameBytes,
      List.range_succ, hfix]

theorem encode_of_decodeWire {bytes : List Byte} {i : Instr} (hok : decodeWire bytes = .ok i) :
    encode i = .wire bytes := by
  unfold decodeWire at hok
  split at hok
  · cases hok
  · next r hfind =>
    obtain rfl := Except.ok.inj hok
    exact encode_buildFrame (List.mem_of_find?_eq_some hfind) (by simpa using List.find?_some hfind)

/-! ## The reserved words (R90), by the fields of a word (R87) -/

theorem word_eq_iff_fields (u v : Word) :
    u = v ↔ opField u = opField v ∧ rsvField u = rsvField v ∧ pField u = pField v ∧ tField u = tField v := by
  refine ⟨fun h => h ▸ ⟨rfl, rfl, rfl, rfl⟩, fun ⟨hop, hrsv, hp, ht⟩ => ?_⟩
  have hu := u.isLt
  have hv := v.isLt
  apply_fun BitVec.toNat at hrsv hp ht
  simp only [opField, rsvField, pField, tField, BitVec.extractLsb'_toNat, Nat.shiftRight_eq_div_pow] at hop hrsv hp ht
  apply BitVec.eq_of_toNat_eq
  omega

/-- Every row fixes `OP`, `RSV` and `P` whole, `RSV` as zero, and what it fixes of `T` is zero. -/
theorem opRow_fields : ∀ r ∈ opRows,
    r.mask.extractLsb' 28 4 = BitVec.allOnes 4 ∧ rsvField r.mask = BitVec.allOnes 11 ∧
      pField r.mask = BitVec.allOnes 1 ∧ rsvField r.pattern = 0 ∧ tField r.pattern = 0 := by decide

/-- A word matches a row by its fields (R87, R88). -/
theorem opRow_matches_iff_fields {r : OpRow} (hr : r ∈ opRows) (cmd : Word) :
    cmd &&& r.mask = r.pattern ↔
      opField cmd = opField r.pattern ∧ rsvField cmd = 0 ∧ pField cmd = pField r.pattern ∧
        tField cmd &&& tField r.mask = 0 := by
  obtain ⟨hop, hrsv, hp, hrsv0, ht0⟩ := opRow_fields r hr
  have hopand : opField (cmd &&& r.mask) = opField cmd := by
    rw [opField, BitVec.extractLsb'_and, hop, BitVec.and_allOnes, opField]
  have hrsvand : rsvField (cmd &&& r.mask) = rsvField cmd := by
    rw [rsvField, BitVec.extractLsb'_and, ← rsvField, ← rsvField, hrsv, BitVec.and_allOnes]
  have hpand : pField (cmd &&& r.mask) = pField cmd := by
    rw [pField, BitVec.extractLsb'_and, ← pField, ← pField, hp, BitVec.and_allOnes]
  have htand : tField (cmd &&& r.mask) = tField cmd &&& tField r.mask := BitVec.extractLsb'_and
  rw [word_eq_iff_fields, hopand, hrsvand, hpand, htand, hrsv0, ht0]

theorem and_0xFF00_eq_zero_iff (t : Half) : t &&& 0xFF00#16 = 0#16 ↔ t.extractLsb' 8 8 = 0#8 := by
  rw [← BitVec.toNat_inj, ← BitVec.toNat_inj, show 0xFF00#16 = BitVec.allOnes 16 <<< 8 by rfl,
    ← BitVec.shiftLeft_ushiftRight]
  simp [Nat.shiftRight_eq_div_pow, Nat.shiftLeft_eq]
  omega

/-- The rows of the map by the fields of a word (R87, R88). -/
theorem exists_row_iff_fields (cmd : Word) :
    (∃ r ∈ opRows, cmd &&& r.mask = r.pattern) ↔
      rsvField cmd = 0 ∧
        ((opField cmd ∈ [1, 2] ∧ pField cmd = 0 ∧ (tField cmd).extractLsb' 8 8 = 0) ∨
          (opField cmd ∈ [3, 5, 7] ∧ pField cmd = 0 ∧ tField cmd = 0) ∨
          (opField cmd ∈ [4, 6] ∧ (pField cmd = 1 → tField cmd = 0))) := by
  have hrows : (∃ r ∈ opRows, cmd &&& r.mask = r.pattern) ↔ ∃ r ∈ opRows,
      opField cmd = opField r.pattern ∧ rsvField cmd = 0 ∧ pField cmd = pField r.pattern ∧
        tField cmd &&& tField r.mask = 0 :=
    exists_congr fun r => and_congr_right fun hr => opRow_matches_iff_fields hr cmd
  rw [hrows]
  generalize opField cmd = op, rsvField cmd = rsv, pField cmd = p, tField cmd = t
  have ht : t &&& 0xFFFF#16 = t := BitVec.and_allOnes
  rcases BitVec.eq_zero_or_eq_one p with rfl | rfl <;>
    simp [opRows, opField, pField, tField, ht, and_0xFF00_eq_zero_iff] <;> grind

/-- The clauses of R90 are what is left beside the rows of R88. -/
theorem reservedWord_iff_no_row (cmd : Word) : reservedWord cmd ↔ ∀ r ∈ opRows, cmd &&& r.mask ≠ r.pattern := by
  have hnone : (∀ r ∈ opRows, cmd &&& r.mask ≠ r.pattern) ↔ ¬ ∃ r ∈ opRows, cmd &&& r.mask = r.pattern := by
    simp
  rw [hnone, exists_row_iff_fields, reservedWord]
  generalize opField cmd = op, rsvField cmd = rsv, pField cmd = p, tField cmd = t
  rcases BitVec.eq_zero_or_eq_one p with rfl | rfl <;> simp <;> grind

end Sys2Proof

namespace Sys2Proof.Machine

open Safety

/-! ## A transaction presented first -/

theorem step_of_transaction {s : State} {x : Transaction} {rest : List Event}
    (h : s.inbox = .transaction x :: rest) : step s = runTransaction x { s with inbox := rest } := by
  simp only [step, runPort, h, runEvent]

/-- A transaction that does not decode is refused (R218, R219). -/
theorem step_of_rejected {s : State} {x : Transaction} {rest : List Event} {e : DecodeReject}
    (h : s.inbox = .transaction x :: rest) (hx : decode x = .error e) : step s = .refused (refusalOf e) := by
  rw [step_of_transaction h]
  simp only [runTransaction, hx]

theorem step_of_decoded {s : State} {x : Transaction} {rest : List Event} {i : Instr}
    (h : s.inbox = .transaction x :: rest) (hx : decode x = .ok i) : step s = exec i { s with inbox := rest } := by
  rw [step_of_transaction h]
  simp only [runTransaction, hx]

/-! ## What an instruction can be refused for (R218) -/

theorem dataFits_eq_false_iff (data : List Byte) : dataFits data = false ↔ 255 < data.length := by
  rw [← Bool.not_eq_true, dataFits_iff, not_le]

theorem checksumResult_of_overlong {data : List Byte} (h : 255 < data.length) (b : Byte) (s : State) :
    checksumResult data b s = .refused .badOperand := by
  simp [checksumResult, (dataFits_eq_false_iff data).2 h]

theorem execDecack_of_overlong {data : List Byte} (h : 255 < data.length) (s : State) :
    execDecack data s = .refused .badOperand := by
  simp [execDecack, (dataFits_eq_false_iff data).2 h]

theorem checksumResult_refused {data : List Byte} {b : Byte} {s : State} {r : Refusal}
    (h : checksumResult data b s = .refused r) : r = .badOperand := by
  unfold checksumResult at h
  split at h
  · cases h
  · exact (Host.Outcome.refused.inj h).symm

theorem execDecack_refused {data : List Byte} {s : State} {r : Refusal}
    (h : execDecack data s = .refused r) : r = .badOperand := by
  unfold execDecack at h
  split at h
  · cases h
  · exact (Host.Outcome.refused.inj h).symm

theorem receiveAck_refused {tgt : Int} {s : State} {r : Refusal} (h : receiveAck tgt s = .refused r) :
    r = .badEnvironment := by
  rcases lt_trichotomy (rxAnswer s).length 12 with hl | hl | hl
  · rw [receiveAck_of_short tgt s hl] at h
    cases h
  · rw [receiveAck_of_twelve tgt s hl] at h
    cases h
  · rw [receiveAck_of_overlong tgt s hl] at h
    exact (Host.Outcome.refused.inj h).symm

theorem exchange_refused {poll : Bool} {t : Half} {tgt : Int} {s : State} {r : Refusal}
    (h : exchange poll t tgt s = .refused r) : r = .badEnvironment := by
  cases hw : txAnswer s with
  | err => simp [exchange, hw] at h
  | ok => exact receiveAck_refused (exchange_of_txAnswer_ok hw poll t tgt ▸ h)

theorem execTick_refused {s : State} {r : Refusal} (h : execTick s = .refused r) : r = .badEnvironment := by
  cases hc : s.ctrl with
  | error => simp [execTick, tickError, hc] at h
  | standby => simp [execTick, tickStandby, hc] at h
  | engaged =>
    cases hv : s.intent.valid with
    | true => exact exchange_refused (execTick_engaged s hc hv ▸ h)
    | false => simp [execTick, tickEngaged, hc, hv] at h
  | armed =>
    cases hv : s.intent.valid with
    | true => exact exchange_refused (execTick_armed s hc hv ▸ h)
    | false => simp [execTick, tickArmed, hc, hv] at h

/-- An instruction that was decoded is refused only for its `DATA` or for a read's answer. -/
theorem exec_refused {i : Instr} {s : State} {r : Refusal} (h : exec i s = .refused r) :
    r = .badOperand ∨ r = .badEnvironment := by
  cases i with
  | chkadd seed data => exact .inl (checksumResult_refused h)
  | chkxor seed data => exact .inl (checksumResult_refused h)
  | decack data => exact .inl (execDecack_refused h)
  | tick => exact .inr (execTick_refused h)
  | _ => cases h

/-! ## The frames that the encoder builds (R130 to R132) -/

/-- Byte 2 of a frame tells its length (R81). -/
theorem makeFrame_byte_two {p : List Byte} (h : p.length < 256) :
    (byteAt (makeFrame p) 2).toNat + 5 = (makeFrame p).length := by
  rw [makeFrame_length]
  simpa [byteAt, makeFrame] using h

/-- A servo number and its complement add up to FF, so the checksums are the same for every number (R137). -/
theorem ssn_checksums (n : Byte) :
    sum8 [0x00, 0x00, 0xAA, 0x55, n, n ^^^ 0xFF] Config.seedAdd = 0xA8 ∧
    xor8 [0x00, 0x00, 0xAA, 0x55, n, n ^^^ 0xFF] Config.seedXor = 0x55 := by
  have hcompl : n ^^^ 255#8 = ~~~n := BitVec.xor_allOnes
  have hsum : n + ~~~n = 255#8 := BitVec.add_not_self n
  have hxor : n ^^^ ~~~n = 255#8 := by rw [← hcompl, ← BitVec.xor_assoc, BitVec.xor_self, BitVec.zero_xor]
  simp [sum8, xor8, Config.seedAdd, Config.seedXor, hcompl, BitVec.add_assoc, hsum, BitVec.xor_assoc, hxor]

theorem makeFrame_ssnPayload (n : Byte) :
    makeFrame (ssnPayload n) = ssnFrameBytes n (n ^^^ 0xFF) 0xA8 0x55 := by
  obtain ⟨hsum, hxor⟩ := ssn_checksums n
  have hpayload : ssnPayload n = [0x00, 0x00, 0xAA, 0x55, n, n ^^^ 0xFF] := by
    simp [ssnPayload, byte_and_0xFF]
  rw [makeFrame, hpayload, hsum, hxor]
  rfl

/-- The constants of a position payload leave 1D and 24 beside the target's bytes (R138). -/
theorem pos_checksums (l h : Byte) :
    sum8 ([0x01, 0x00, 0x01, 0x71, l, h] ++ zeros 9) Config.seedAdd = 0x1D + l + h ∧
    xor8 ([0x01, 0x00, 0x01, 0x71, l, h] ++ zeros 9) Config.seedXor = 0x24 ^^^ l ^^^ h := by
  simp [sum8, xor8, zeros, List.replicate, Config.seedAdd, Config.seedXor]

theorem makeFrame_posPayload (t : Half) :
    makeFrame (posPayload false t) = posFrameBytes (targetLow t) (targetHigh t) (0x1D + targetLow t + targetHigh t)
      (0x24 ^^^ targetLow t ^^^ targetHigh t) := by
  obtain ⟨hsum, hxor⟩ := pos_checksums (targetLow t) (targetHigh t)
  have hpayload : posPayload false t = [0x01, 0x00, 0x01, 0x71, targetLow t, targetHigh t] ++ zeros 9 := by
    rw [targetLow, targetHigh, ← loByte_eq, ← hiByte_eq]
    rfl
  rw [makeFrame, hpayload, hsum, hxor]
  rfl

end Sys2Proof.Machine

namespace Sys2Proof.Safety

open Sys2Proof.Machine

/-! ## The decoder and the encoder -/

/-- Settles O48: a command word is its row's pattern with the operand, which the row reads back; a frame is selected
by its length and its fixed bytes. -/
theorem decodeOfEncodeIsIdentity : Obligations.DecodeOfEncodeIsIdentity := by
  intro i hwf
  cases i with
  | chkadd seed data =>
    exact decodeCommand_pattern_or (r := ⟨.chkadd, 0x10000000, 0xFFFFFF00, true⟩) (by decide) seed hwf
  | chkxor seed data =>
    exact decodeCommand_pattern_or (r := ⟨.chkxor, 0x20000000, 0xFFFFFF00, true⟩) (by decide) seed hwf
  | encssn => rfl
  | encpos target =>
    exact decodeCommand_pattern_or (r := ⟨.encpos, 0x40000000, 0xFFFF0000, false⟩) (by decide) target rfl
  | encpoll => rfl
  | decack data =>
    exact decodeCommand_pattern_or (r := ⟨.decack, 0x50000000, 0xFFFFFFFF, true⟩) (by decide) 0#0 hwf
  | setint target =>
    exact decodeCommand_pattern_or (r := ⟨.setint, 0x60000000, 0xFFFF0000, false⟩) (by decide) target rfl
  | setpoll => rfl
  | tick => rfl
  | ssnFrame n c a x => exact decodeWire_ssnFrameBytes n c a x
  | posFrame l h a x => exact decodeWire_posFrameBytes l h a x
  | pollFrame => exact decodeWire_pollFrameBytes
  | ackFrame raw => exact decodeWire_ackFrameBytes raw

/-- Settles O49: a command word is put together again from the bits its row fixes and the operand, a frame from its
fixed bytes and its fields. -/
theorem encodeOfDecodeIsIdentity : Obligations.EncodeOfDecodeIsIdentity := by
  intro x i hok
  cases x with
  | command cmd data => exact encode_of_decodeCommand hok
  | wire bytes => exact encode_of_decodeWire hok

/-- Settles O50: each word and each frame is decoded. -/
theorem vectorsDecode : Obligations.VectorsDecode :=
  ⟨rfl, rfl, rfl, rfl, rfl, rfl, rfl, rfl, rfl⟩

/-! ## The command words -/

/-- Settles O46: the word's own bits are what the two patterns hold wherever both masks look. -/
theorem oneRowPerWord : Obligations.OneRowPerWord :=
  fun _ _ hr _ hr' h h' => opRow_eq_of_matches hr hr' h h'

/-- Settles O45: what matches no row is rejected by the decoder, and no instruction is refused under that name. -/
theorem reservedWordsAreRefused : Obligations.ReservedWordsAreRefused := by
  refine ⟨reservedWord_iff_no_row, fun cmd data s rest hin => ?_⟩
  rw [reservedWord_iff_no_row, ← decodeCommand_reserved_iff cmd data]
  refine ⟨fun hres => step_of_rejected hin hres, fun hstep => ?_⟩
  cases hd : decodeCommand cmd data with
  | ok i =>
    rw [step_of_decoded hin hd] at hstep
    rcases exec_refused hstep with h | h <;> cases h
  | error e =>
    rw [step_of_rejected hin hd] at hstep
    cases e <;> cases hstep
    rfl

/-- The row that a word matches tells whether the word's command reads `DATA`, since it fixes the operation code. -/
theorem readsData_iff {cmd : Word} {r : OpRow} (hr : r ∈ opRows) (h : cmd &&& r.mask = r.pattern) :
    readsData cmd ↔ r.takesData = true := by
  have htable : ∀ r ∈ opRows, readsData r.pattern ↔ r.takesData = true := by decide
  rw [← htable r hr, readsData, readsData, ((opRow_matches_iff_fields hr cmd).1 h).1]

/-- Settles O47: the word's row says whether it reads `DATA`, and the decoder looks at the row's DATA law. -/
theorem dataPortUse : Obligations.DataPortUse := by
  intro cmd data s rest hres hin
  obtain ⟨r, hr, h⟩ : ∃ r ∈ opRows, cmd &&& r.mask = r.pattern := by simpa [reservedWord_iff_no_row] using hres
  have hreject (hd : ¬ dataAdmitted r.takesData data = true) : step s = .refused .badOperand :=
    step_of_rejected hin ((decodeCommand_of_row hr h data).trans (if_neg hd))
  have haccept (hd : dataAdmitted r.takesData data = true) : ∃ i, decode (.command cmd data) = .ok i :=
    ⟨_, (decodeCommand_of_row hr h data).trans (if_pos hd)⟩
  rw [readsData_iff hr h]
  cases htakes : r.takesData with
  | true =>
    rw [htakes, dataAdmitted_true_iff] at hreject haccept
    exact ⟨fun _ hlong => hreject (by omega), fun _ => haccept, nofun, nofun⟩
  | false =>
    rw [htakes, dataAdmitted_false_iff] at hreject haccept
    exact ⟨nofun, nofun, fun _ => hreject, fun _ => haccept⟩

/-- Settles O19: the meanings check the length of `DATA` themselves. -/
theorem overlongDataIsRefused : Obligations.OverlongDataIsRefused :=
  fun _ _ s h => ⟨checksumResult_of_overlong h _ s, checksumResult_of_overlong h _ s, execDecack_of_overlong h s⟩

theorem ssnFrame_wellFormed (n : Byte) : (Instr.ssnFrame n (n ^^^ 0xFF) 0xA8 0x55).wellFormed = true := by
  obtain ⟨hsum, hxor⟩ := ssn_checksums n
  simp only [Instr.wellFormed, ssnFrameFits, hsum, hxor, BEq.rfl, Bool.and_self]

theorem posFrame_wellFormed (l h : Byte) :
    (Instr.posFrame l h (0x1D + l + h) (0x24 ^^^ l ^^^ h)).wellFormed = true := by
  obtain ⟨hsum, hxor⟩ := pos_checksums l h
  simp only [Instr.wellFormed, posFrameFits, hsum, hxor, BEq.rfl, Bool.and_self]

/-- Settles O25: the frames are those of the table's rows, written out, and the decoder reads the rows. -/
theorem builtFramesAreTableFrames : Obligations.BuiltFramesAreTableFrames := by
  refine ⟨fun n => ⟨_, ?_, ssnFrame_wellFormed n, rfl⟩, fun t => ⟨_, ?_, posFrame_wellFormed _ _, rfl⟩,
    decodeWire_pollFrameBytes, fun n => makeFrame_byte_two (by simp), fun poll t => makeFrame_byte_two (by simp)⟩
  · rw [makeFrame_ssnPayload]
    exact decodeWire_ssnFrameBytes ..
  · rw [makeFrame_posPayload]
    exact decodeWire_posFrameBytes ..

/-! ## The assembler's targets (R95) -/

theorem assembleTarget_of_out_of_range {v : Int} (h : v < -1 ∨ 65535 < v) (poll : Instr) (plain : Half → Instr) :
    assembleTarget poll plain v = .error .badOperand := by
  rw [assembleTarget, if_neg (by omega), if_neg (by omega)]

theorem assembleTarget_of_half (v : Half) (poll : Instr) (plain : Half → Instr) :
    assembleTarget poll plain v.toNat = .ok (plain v) := by
  have := v.isLt
  rw [assembleTarget, if_neg (by omega), if_pos (by omega), Int.toNat_natCast, BitVec.ofNat_toNat, BitVec.setWidth_eq]

/-- Settles O51: both commands expand their target alike. -/
theorem assemblerTargets : Obligations.AssemblerTargets :=
  ⟨rfl, rfl, fun _ h => ⟨assembleTarget_of_out_of_range h _ _, assembleTarget_of_out_of_range h _ _⟩,
    fun v => ⟨assembleTarget_of_half v _ _, assembleTarget_of_half v _ _⟩⟩

end Sys2Proof.Safety
end

section
/-! PROOFS. The checksums (spec/40_checksum.md): their closed forms, their independence of the bytes' order, and the
answers of the two checksum commands. -/

namespace Sys2Proof.Machine

/-! ## The two checksums in closed form -/

@[simp] theorem sum8_cons (b : Byte) (l : List Byte) (s : Byte) : sum8 (b :: l) s = sum8 l (s + b) := rfl

@[simp] theorem xor8_cons (b : Byte) (l : List Byte) (s : Byte) : xor8 (b :: l) s = xor8 l (s ^^^ b) := rfl

theorem xor8_singleton (b s : Byte) : xor8 [b] s = s ^^^ b := rfl

/-- The wrapping additions leave the remainder of the sum as a number (R115). -/
theorem sum8_toNat (l : List Byte) (s : Byte) :
    (sum8 l s).toNat = (s.toNat + (l.map BitVec.toNat).sum) % 256 := by
  induction l generalizing s with
  | nil => exact (Nat.mod_eq_of_lt s.isLt).symm
  | cons b l ih =>
    rw [sum8_cons, ih, BitVec.toNat_add, Nat.mod_add_mod, Nat.add_assoc, List.map_cons, List.sum_cons]

/-- The seed stands apart from the bytes' own exclusive OR (R115). -/
theorem xor8_eq (l : List Byte) (s : Byte) : xor8 l s = s ^^^ l.foldr (· ^^^ ·) 0 := by
  induction l generalizing s with
  | nil => exact BitVec.xor_zero.symm
  | cons b l ih => rw [xor8_cons, ih, BitVec.xor_assoc, List.foldr_cons]

/-! ## The order of the bytes -/

theorem sum8_perm {l l' : List Byte} (h : l.Perm l') (s : Byte) : sum8 l' s = sum8 l s := by
  apply BitVec.eq_of_toNat_eq
  rw [sum8_toNat, sum8_toNat, (h.map BitVec.toNat).sum_nat]

theorem xor8_perm {l l' : List Byte} (h : l.Perm l') (s : Byte) : xor8 l' s = xor8 l s := by
  rw [xor8_eq, xor8_eq, h.foldr_eq]

/-! ## The checksum commands -/

theorem checksumResult_of_fits {data : List Byte} (h : data.length ≤ 255) (b : Byte) (s : State) :
    checksumResult data b s = .next { s with result := .byte b } :=
  if_pos ((dataFits_iff data).2 h)

end Sys2Proof.Machine

namespace Sys2Proof.Safety

open Sys2Proof.Machine

/-- Settles O14: permuted bytes have the same closed forms. -/
theorem checksumClosedForms : Obligations.ChecksumClosedForms :=
  fun l s => ⟨sum8_toNat l s, xor8_eq l s, fun _ h => ⟨sum8_perm h s, xor8_perm h s⟩⟩

/-- Settles O16: `RESULT` carries `sum8`, in its closed form. -/
theorem chkaddAnswersTheSum : Obligations.ChkaddAnswersTheSum :=
  fun seed data s h => ⟨sum8 data seed, checksumResult_of_fits h _ s, sum8_toNat data seed⟩

/-- Settles O17: `RESULT` carries `xor8`, in its closed form. -/
theorem chkxorAnswersTheExclusiveOr : Obligations.ChkxorAnswersTheExclusiveOr := by
  intro seed data s h
  rw [← xor8_eq]
  exact checksumResult_of_fits h _ s

/-- Settles O18: the two accumulators run independently, each from its own seed. -/
theorem accumulatorsEndAtTheChecksums : Obligations.AccumulatorsEndAtTheChecksums :=
  accumulate_eq

/-- Settles O15: the seed meets itself and cancels. -/
theorem xorTwiceReturnsTheByte : Obligations.XorTwiceReturnsTheByte := by
  intro x s
  rw [xor8_singleton, xor8_singleton]
  exact ⟨rfl, xor_cancel_left s x⟩

end Sys2Proof.Safety
end

section
/-! PROOFS. The frame encoder (spec/41_frame_encoder.md): the frames of position and poll payloads written out, and
what an encoder command leaves in the registers and on the result port. -/

namespace Sys2Proof.Machine

open Safety

/-! ## The bytes of a target (R62) -/

@[simp] theorem targetLow_toNat (t : Half) : (targetLow t).toNat = t.toNat % 256 := by
  simp [targetLow]

@[simp] theorem targetHigh_toNat (t : Half) : (targetHigh t).toNat = t.toNat / 256 := by
  have := t.isLt
  rw [targetHigh, BitVec.toNat_ofNat]
  omega

/-! ## Position and poll frames (R83, R84, R138) -/

/-- A poll payload has no target, so its frame is one constant. -/
theorem makeFrame_posPayload_eq_tickFrame (poll : Bool) (t : Half) :
    makeFrame (posPayload poll t) = tickFrame poll t := by
  cases poll with
  | false => exact makeFrame_posPayload t
  | true => rfl

theorem tickFrame_checksums (t : Half) :
    (tickFrame false t).drop 18 =
      [0x1D + targetLow t + targetHigh t, 0x24 ^^^ targetLow t ^^^ targetHigh t] := rfl

/-- The checksums see a target only through the sum and the exclusive OR of its bytes. -/
theorem tickFrame_checksums_congr {t u : Half} (hsum : targetLow t + targetHigh t = targetLow u + targetHigh u)
    (hxor : targetLow t ^^^ targetHigh t = targetLow u ^^^ targetHigh u) :
    (tickFrame false t).drop 18 = (tickFrame false u).drop 18 := by
  simp only [tickFrame_checksums, BitVec.add_assoc, BitVec.xor_assoc, hsum, hxor]

/-! ## The encoder's registers (R133) -/

/-- The register update leaves the whole frame and its checksums in the registers. -/
theorem holdsFrame_encoderUpdate {p : List Byte} (h : p.length ≤ 15) (s : State) :
    holdsFrame (makeFrame p) (encoderUpdate p s) := by
  refine ⟨?_, memory_read_load _, ?_, ?_⟩
  · rw [encoderUpdate_frameLen, BitVec.toNat_ofNat, makeFrame_length]
    omega
  · simp [makeFrame, accumulate_eq]
  · simp [makeFrame, accumulate_eq]

/-- An encoder command completes in every state (R134 to R136): the registers hold the frame, the result port carries
it, and nothing else changes. -/
theorem encodePayload_completes {p f : List Byte} (hf : makeFrame p = f) (h : p.length ≤ 15) (s : State) :
    ∃ t, encodePayload p s = .next t ∧ holdsFrame f t ∧
      t = { withEncoder t s with result := .frame (BitVec.ofNat 5 f.length) f } := by
  subst hf
  refine ⟨resultFrame (encoderUpdate p s), rfl, holdsFrame_encoderUpdate h s, ?_⟩
  rw [resultFrame, frameBytes_encoderUpdate p s h]
  rfl

end Sys2Proof.Machine

namespace Sys2Proof.Safety

open Sys2Proof.Machine

/-- Settles O24: every position frame is `tickFrame`, whose bytes stand in its definition. -/
theorem positionFrameChecksums : Obligations.PositionFrameChecksums := by
  refine ⟨fun t => ?_, makeFrame_posPayload_eq_tickFrame true 0, rfl, fun t u hsum hxor => ?_, ?_⟩
  · rw [makeFrame_posPayload_eq_tickFrame]
    exact ⟨targetLow_toNat t, targetHigh_toNat t, rfl, tickFrame_checksums t⟩
  · rw [makeFrame_posPayload_eq_tickFrame, makeFrame_posPayload_eq_tickFrame]
    exact tickFrame_checksums_congr hsum hxor
  · rw [makeFrame_posPayload_eq_tickFrame, makeFrame_posPayload_eq_tickFrame]
    exact tickFrame_checksums_congr (by decide) (by decide)

/-- Settles O23: the payload's checksums do not depend on the number. -/
theorem servoNumberFramesEndAlike : Obligations.ServoNumberFramesEndAlike :=
  makeFrame_ssnPayload

/-- Settles O20: the command encodes the Set-Servo-Number payload. -/
theorem encssnBuildsItsFrame : Obligations.EncssnBuildsItsFrame :=
  fun s => encodePayload_completes (makeFrame_ssnPayload s.params.servoNumber) (by simp) s

/-- Settles O21: FRAME reads as the position frame, whose bytes 7 and 8 are those of the target. -/
theorem encposBuildsItsFrame : Obligations.EncposBuildsItsFrame := by
  intro target s
  obtain ⟨t, hexec, hholds, hframe⟩ :=
    encodePayload_completes (makeFrame_posPayload_eq_tickFrame false target) (by simp) s
  have ⟨_, hread, _, _⟩ := hholds
  refine ⟨t, hexec, hholds, ?_, ?_, hframe⟩
  · simp [hread, tickFrame]
  · simp [hread, tickFrame]

/-- Settles O22: the last two bytes of the constant frame are the accumulators. -/
theorem encpollBuildsTheConstantFrame : Obligations.EncpollBuildsTheConstantFrame := by
  intro s
  obtain ⟨t, hexec, hholds, hframe⟩ :=
    encodePayload_completes (f := pollFrameBytes) (makeFrame_posPayload_eq_tickFrame true 0) (by simp) s
  have ⟨_, _, hadd, hxor⟩ := hholds
  exact ⟨t, hexec, hholds, (Option.some.inj hadd).symm, (Option.some.inj hxor).symm, hframe⟩

end Sys2Proof.Safety
end

section
/-! PROOFS. The frame parser (spec/42_frame_parser.md): the fields as numbers of the raw bytes, the bytes that they
depend on, and that a tick sees no other byte of an acknowledgement. -/

namespace Sys2Proof.Machine

open Safety

/-! ## The status byte (R86, R151) -/

/-- The mask of alarm keeps exactly the two low bits. -/
theorem alarmOf_eq_setWidth (b : Byte) : alarmOf b = b.setWidth 2 := by
  rw [alarmOf, BitVec.setWidth_and]
  exact BitVec.and_allOnes

theorem alarmOf_toNat (b : Byte) : (alarmOf b).toNat = b.toNat % 4 := by
  rw [alarmOf_eq_setWidth, BitVec.toNat_setWidth]

/-- Both values of `SLIP_MASK` lie in the two low bits, so slip is alarm under the mask. -/
theorem slipOf_eq_alarmOf_and (m : SlipMask) (b : Byte) : slipOf m b = alarmOf b &&& m.bits.setWidth 2 := by
  rw [slipOf, BitVec.setWidth_and, alarmOf_eq_setWidth]

theorem slipOf_mask03 (b : Byte) : slipOf .mask03 b = alarmOf b := rfl

theorem slipOf_mask02_toNat (b : Byte) : (slipOf .mask02 b).toNat = 2 * (b.toNat / 2 % 2) := by
  have hbit : ∀ x : BitVec 2, (x &&& 2#2).toNat = 2 * (x.toNat / 2) := by decide
  rw [slipOf_eq_alarmOf_and, show SlipMask.mask02.bits.setWidth 2 = 2#2 from rfl, hbit, alarmOf_toNat]
  omega

theorem engagedOf_iff (b : Byte) : engagedOf b = true ↔ b.toNat % 2 = 1 := by
  rw [engagedOf_eq_alarmOf_bit, BitVec.getLsbD, Nat.testBit_zero, alarmOf_toNat, decide_eq_true_iff]
  omega

/-! ## The fields (R150, R151) -/

/-- Two bytes, little-endian, stay below 65536, so the position register holds them whole. -/
theorem extract_position_toNat (m : SlipMask) (raw : List Byte) :
    (extract m raw).position.toNat = (byteAt raw 6).toNat + 256 * (byteAt raw 7).toNat := by
  have hlow := (byteAt raw 6).isLt
  have hhigh := (byteAt raw 7).isLt
  simp only [extract, memRead, BitVec.toNat_ofNat, Nat.reduceAdd]
  omega

theorem ackFieldsOf_extract (m : SlipMask) (raw : List Byte) : ackFieldsOf m raw (extract m raw) := by
  refine ⟨engagedOf_iff _, ?_, alarmOf_toNat _, extract_position_toNat m raw, rfl, rfl⟩
  cases m with
  | mask02 => exact slipOf_mask02_toNat _
  | mask03 => exact alarmOf_toNat _

theorem byteAt_congr {l l' : List Byte} {i : Nat} (h : l[i]? = l'[i]?) : byteAt l i = byteAt l' i := by
  simp only [byteAt, List.getD_eq_getElem?_getD, h]

/-- The fields see the two low bits of the status byte and the bytes at offsets 6 to 9, nothing else (R152). -/
theorem extract_congr (m : SlipMask) {raw raw' : List Byte}
    (hstatus : (byteAt raw 5).toNat % 4 = (byteAt raw' 5).toNat % 4)
    (hbytes : ∀ i, 6 ≤ i → i ≤ 9 → raw[i]? = raw'[i]?) : extract m raw = extract m raw' := by
  have halarm : alarmOf (byteAt raw 5) = alarmOf (byteAt raw' 5) :=
    BitVec.eq_of_toNat_eq (by rw [alarmOf_toNat, alarmOf_toNat, hstatus])
  have h6 := byteAt_congr (hbytes 6 (by omega) (by omega))
  have h7 := byteAt_congr (hbytes 7 (by omega) (by omega))
  have h8 := byteAt_congr (hbytes 8 (by omega) (by omega))
  have h9 := byteAt_congr (hbytes 9 (by omega) (by omega))
  simp only [extract, memRead, engagedOf_eq_alarmOf_bit, slipOf_eq_alarmOf_and, halarm, h6, h7, h8, h9]

/-- DECACK completes with the decode result where the port can carry its `DATA` (R91, R153). -/
theorem execDecack_of_fits {data : List Byte} (h : data.length ≤ 255) (s : State) :
    execDecack data s = .next { s with result := .ack (decodeAck s.params.slipMask data) } :=
  if_pos ((dataFits_iff data).2 h)

/-! ## A tick with a listed read answer -/

theorem exchange_of_txAnswer_err {s : State} (hw : txAnswer s = .err) (poll : Bool) (t : Half) (tgt : Int) :
    exchange poll t tgt s = .next (failExchange .transportWriteFailure (sendFrame poll t s)) := by
  simp only [exchange, hw]

/-- An exchange whose read is answered with twelve bytes accepts their Ack (R178). -/
theorem exchange_of_twelve {s : State} (hw : txAnswer s = .ok) (hlen : (rxAnswer s).length = 12)
    (poll : Bool) (t : Half) (tgt : Int) :
    exchange poll t tgt s =
      .next (acceptAck tgt (extract s.params.slipMask (rxAnswer s)) (rxRead (sendFrame poll t s))) := by
  rw [exchange_of_txAnswer_ok hw]
  exact receiveAck_of_twelve tgt _ hlen

theorem execTick_error {s : State} (hc : s.ctrl = .error) : execTick s = .next (finishTick false s) := by
  simp only [execTick, hc, tickError]

theorem execTick_standby {s : State} (hc : s.ctrl = .standby) : execTick s = .next (finishTick true s) := by
  simp only [execTick, hc, tickStandby]

/-! ### The listed read answers (log entry 3) -/

/-- `s` with the read answers `q` listed. -/
def withAnswers (q : List (List Byte)) (s : State) : State := { s with link := { s.link with rxQueue := q } }

theorem withAnswers_params (q : List (List Byte)) (s : State) : (withAnswers q s).params = s.params := rfl

theorem rxAnswer_withAnswers (raw : List Byte) (rest : List (List Byte)) (s : State) :
    rxAnswer (withAnswers (raw :: rest) s) = raw := rfl

theorem sendFrame_withAnswers (poll : Bool) (t : Half) (q : List (List Byte)) (s : State) :
    sendFrame poll t (withAnswers q s) = withAnswers q (sendFrame poll t s) := by
  rw [sendFrame_eq, sendFrame_eq]
  rfl

/-- A read takes the first answer away. -/
theorem rxRead_withAnswers (raw : List Byte) (rest : List (List Byte)) (s : State) :
    rxRead (withAnswers (raw :: rest) s) = withAnswers rest (rxRead s) := rfl

theorem failExchange_withAnswers (c : Cause) (q : List (List Byte)) (s : State) :
    failExchange c (withAnswers q s) = withAnswers q (failExchange c s) := rfl

theorem acceptAck_withAnswers (tgt : Int) (a : AckRecord) (q : List (List Byte)) (s : State) :
    acceptAck tgt a (withAnswers q s) = withAnswers q (acceptAck tgt a s) := rfl

/-- What two runs of one operation from `s`, the answer listed first being `raw` in one and `raw'` in the other, have
in common where the difference of the two has no effect: the states `t` and `t'` that they end in agree in everything
but the listed answers, and both runs took their answer away, or neither did. -/
def sameBesidesAnswers (raw raw' : List Byte) (rest : List (List Byte)) (s t t' : State) : Prop :=
  withAnswers t.link.rxQueue t' = t ∧
    (t.link.reads ≠ s.link.reads → t.link.rxQueue = rest ∧ t'.link.rxQueue = rest) ∧
    (t.link.reads = s.link.reads → t.link.rxQueue = raw :: rest ∧ t'.link.rxQueue = raw' :: rest)

section

variable {raw raw' : List Byte} {rest : List (List Byte)} {s t u : State}

theorem sameBesidesAnswers_of_no_read (h : u.link.reads = s.link.reads) :
    sameBesidesAnswers raw raw' rest s (withAnswers (raw :: rest) u) (withAnswers (raw' :: rest) u) :=
  ⟨rfl, fun hne => absurd h hne, fun _ => ⟨rfl, rfl⟩⟩

theorem sameBesidesAnswers_of_read (h : u.link.reads ≠ s.link.reads) :
    sameBesidesAnswers raw raw' rest s (withAnswers rest u) (withAnswers rest u) :=
  ⟨rfl, fun _ => ⟨rfl, rfl⟩, fun heq => absurd heq h⟩

/-- Of an answer of twelve bytes an exchange takes the fields alone, and without a read it takes nothing. -/
theorem exchange_sameBesidesAnswers {poll : Bool} {target : Half} {tgt : Int} (hlen : raw.length = 12)
    (hlen' : raw'.length = 12) (hfields : extract s.params.slipMask raw = extract s.params.slipMask raw')
    (h : exchange poll target tgt (withAnswers (raw :: rest) s) = .next t) :
    ∃ t', exchange poll target tgt (withAnswers (raw' :: rest) s) = .next t' ∧
      sameBesidesAnswers raw raw' rest s t t' := by
  rcases exchange_cases h with ⟨hw, rfl⟩ | ⟨-, hshort, -⟩ | ⟨hw, -, rfl⟩
  · have hw' : txAnswer (withAnswers (raw' :: rest) s) = .err := hw
    refine ⟨_, exchange_of_txAnswer_err hw' poll target tgt, ?_⟩
    simp only [sendFrame_withAnswers, failExchange_withAnswers]
    exact sameBesidesAnswers_of_no_read (by simp)
  · exact absurd hlen (Nat.ne_of_lt hshort)
  · have hw' : txAnswer (withAnswers (raw' :: rest) s) = .ok := hw
    refine ⟨_, exchange_of_twelve hw' hlen' poll target tgt, ?_⟩
    simp only [rxAnswer_withAnswers, withAnswers_params, hfields, sendFrame_withAnswers, rxRead_withAnswers,
      acceptAck_withAnswers]
    exact sameBesidesAnswers_of_read (by simp [rxRead])

end

end Sys2Proof.Machine

namespace Sys2Proof.Safety

open Sys2Proof.Machine

/-- Settles O26: the decode result is a failure or the extracted fields, by the length alone. -/
theorem decackAnswersTheFields : Obligations.DecackAnswersTheFields := by
  intro data s hfits
  have hexec : exec (.decack data) s = .next { s with result := .ack (decodeAck s.params.slipMask data) } :=
    execDecack_of_fits hfits s
  refine ⟨fun hshort => ?_, fun hlong => ⟨extract s.params.slipMask data, ?_, ackFieldsOf_extract _ _⟩⟩
  · rw [hexec, (decodeAck_eq_none_iff _ _).2 hshort]
  · rw [hexec, decodeAck_of_long _ _ hlong]

/-- Settles O27: under 0x03 slip is alarm, whose low bit is engaged. -/
theorem parserLaws : Obligations.ParserLaws := by
  intro m raw
  refine ⟨(decodeAck_eq_none_iff m raw).2, fun hlong =>
    ⟨extract m raw, decodeAck_of_long m raw hlong, extract_position_toNat m raw, ?_, ?_⟩⟩
  · rintro rfl
    have hslip : (extract .mask02 raw).slip = 0 ∨ (extract .mask02 raw).slip = 2 := slipOf_mask02 _
    exact ⟨hslip, by rcases hslip with h | h <;> simp [h]⟩
  · rintro rfl
    have hone : alarmOf (byteAt raw 5) = 1 ↔ (byteAt raw 5).toNat % 4 = 1 := by
      rw [← alarmOf_toNat, BitVec.toNat_eq]
      rfl
    have hengaged (h : alarmOf (byteAt raw 5) = 1) : engagedOf (byteAt raw 5) = true := by
      rw [engagedOf_eq_alarmOf_bit, h]
      rfl
    exact ⟨hone, fun h => ⟨h, hengaged h⟩, And.left⟩

/-- Settles O28: the length decides whether there are fields, and they see no other byte. -/
theorem parserChecksOnlyTheLength : Obligations.ParserChecksOnlyTheLength := by
  intro m raw raw'
  refine ⟨?_, fun hlong hlong' hbytes hstatus => ?_⟩
  · rw [← not_lt, ← decodeAck_eq_none_iff m raw, Option.isSome_iff_ne_none]
  · rw [decodeAck_of_long m raw hlong, decodeAck_of_long m raw' hlong', extract_congr m hstatus hbytes]

/-- Settles O42: a tick that reads takes the fields alone from the answer, and the other ticks do not look at it. -/
theorem ignoredAckBytesHaveNoEffect : Obligations.IgnoredAckBytesHaveNoEffect := by
  intro s t raw raw' rest hlen hlen' hagree h
  have hfields : extract s.params.slipMask raw = extract s.params.slipMask raw' :=
    extract_congr _ (by rw [byteAt_congr (hagree 5 (by omega) (by omega))]) fun i hi => hagree i (by omega)
  change execTick (withAnswers (raw :: rest) s) = .next t at h
  change ∃ t', execTick (withAnswers (raw' :: rest) s) = .next t' ∧ sameBesidesAnswers raw raw' rest s t t'
  rcases execTick_cases h with ⟨hc, rfl⟩ | ⟨hc, rfl⟩ | ⟨hc, hv, hx⟩ | ⟨hc, hv, hx⟩
  · exact ⟨_, execTick_error hc, sameBesidesAnswers_of_no_read (u := finishTick false s) rfl⟩
  · exact ⟨_, execTick_standby hc, sameBesidesAnswers_of_no_read (u := finishTick true s) rfl⟩
  · rw [execTick_engaged (withAnswers (raw' :: rest) s) hc hv]
    exact exchange_sameBesidesAnswers hlen hlen' hfields hx
  · rw [execTick_armed (withAnswers (raw' :: rest) s) hc hv]
    exact exchange_sameBesidesAnswers hlen hlen' hfields hx

end Sys2Proof.Safety
end

section
/-! PROOFS. The supervisor (spec/43_supervisor.md): the transition (R179), a tick in each of the four states (R173 to
R178), and what holds along a whole run (R183). -/

namespace Sys2Proof.Machine

open Safety

variable {s t : State}

/-! ## The transition over integers (R172, R179) -/

/-- The test under the tolerance, as a test of the absolute difference of two integers. -/
theorem distance_lt_tol_iff (pos : Half) (tgt : Int) :
    distance pos tgt < Config.tol ↔ |(pos.toNat : Int) - tgt| < 5 := by
  rw [distance, Config.tol, ← Int.natCast_natAbs]
  omega

theorem nextState_engaged (tgt : Int) (pos : Half) (slip : BitVec 2) :
    nextState .engaged tgt pos slip =
      if slip = 1 then .standby else if |(pos.toNat : Int) - tgt| < 5 then .armed else .engaged := by
  simp only [nextState, toleranceState, distance_lt_tol_iff]

theorem nextState_armed (tgt : Int) (pos : Half) (slip : BitVec 2) :
    nextState .armed tgt pos slip =
      if slip = 1 then .standby else if 5 ≤ |(pos.toNat : Int) - tgt| then .engaged else .armed := by
  simp only [nextState, toleranceState, ← not_lt, distance_lt_tol_iff]

/-! ## A tick that exchanges -/

theorem sentFrame_engaged (hc : s.ctrl = .engaged) : sentFrame s = tickFrame s.intent.poll s.intent.target := by
  rw [sentFrame, hc]
  rfl

theorem sentFrame_armed (hc : s.ctrl = .armed) : sentFrame s = pollFrameBytes := by
  rw [sentFrame, hc]
  rfl

/-- A tick in ENGAGED or ARMED with an intent is the exchange that sends its frame (R175, R176). -/
theorem execTick_of_exchanges (hc : exchanges s) (hv : s.intent.valid = true) :
    ∃ poll target, tickFrame poll target = sentFrame s ∧
      execTick s = exchange poll target (targetInt s.intent) s := by
  rcases hc with hc | hc
  · exact ⟨_, _, (sentFrame_engaged hc).symm, execTick_engaged s hc hv⟩
  · exact ⟨true, 0, (sentFrame_armed hc).symm, execTick_armed s hc hv⟩

/-- A tick's write leaves its whole frame in the registers (R178). -/
theorem holdsFrame_sendFrame (poll : Bool) (target : Half) (s : State) :
    holdsFrame (tickFrame poll target) (sendFrame poll target s) := by
  rw [← makeFrame_posPayload_eq_tickFrame, sendFrame_eq]
  exact holdsFrame_encoderUpdate (posPayload_length poll target).le s

/-- The link after a tick's write and its read. -/
theorem link_rxRead_sendFrame (poll : Bool) (target : Half) (s : State) :
    (rxRead (sendFrame poll target s)).link = linkAfter s.link (tickFrame poll target) 1 := by
  rw [rxRead_link, sendFrame_link, makeFrame_posPayload_eq_tickFrame, linkAfter, List.drop_one]
  rfl

/-- A tick in ENGAGED or ARMED whose write is answered OK and whose read with twelve bytes completes: its frame was
sent, the Ack is decoded and STATE moves by R179; nothing else changes (R178). -/
theorem execTick_of_twelve (hc : exchanges s) (hv : s.intent.valid = true) (hw : txAnswer s = .ok)
    (hlen : (rxAnswer s).length = 12) :
    ∃ t a, execTick s = .next t ∧ ackFieldsOf s.params.slipMask (rxAnswer s) a ∧ holdsFrame (sentFrame s) t ∧
      t = { withEncoder t s with
            ctrl := nextState s.ctrl (targetInt s.intent) a.position a.slip
            ack := ⟨true, a⟩
            tickResult := ⟨true, true⟩
            result := .cont true
            link := linkAfter s.link (sentFrame s) 1 } := by
  obtain ⟨poll, target, hframe, htick⟩ := execTick_of_exchanges hc hv
  rw [← hframe, htick, exchange_of_twelve hw hlen, ← link_rxRead_sendFrame]
  exact ⟨_, _, rfl, ackFieldsOf_extract _ _, holdsFrame_sendFrame poll target s, rfl⟩

/-- An exchange, however it ends, answers stop exactly where it ends in ERROR (R178, R180). -/
theorem exchange_stops_iff (hc : exchanges s) {poll : Bool} {target : Half} {tgt : Int}
    (h : exchange poll target tgt s = .next t) :
    ∃ c, t.tickResult = ⟨true, c⟩ ∧ t.result = .cont c ∧ (c = false ↔ t.ctrl = .error) := by
  rcases exchange_cases h with ⟨-, rfl⟩ | ⟨-, -, rfl⟩ | ⟨-, -, rfl⟩
  · exact ⟨false, rfl, rfl, by simp⟩
  · exact ⟨false, rfl, rfl, by simp⟩
  · have hmoved := (nextState_of_exchanging hc tgt (extract s.params.slipMask (rxAnswer s)).position
      (extract s.params.slipMask (rxAnswer s)).slip).1
    exact ⟨true, rfl, rfl, by simp [hmoved]⟩

/-- An exchange, however it ends, made one write and no read or one (R65, R66). -/
theorem exchange_link {poll : Bool} {target : Half} {tgt : Int} (h : exchange poll target tgt s = .next t) :
    t.link.frames = s.link.frames ++ [tickFrame poll target] ∧ t.link.writes = s.link.writes + 1 ∧
      (t.link.reads = s.link.reads ∨ t.link.reads = s.link.reads + 1) := by
  rw [← makeFrame_posPayload_eq_tickFrame]
  rcases exchange_cases h with ⟨-, rfl⟩ | ⟨-, -, rfl⟩ | ⟨-, -, rfl⟩
  · simp
  · simp
  · simp

theorem tickFrame_length (poll : Bool) (target : Half) : (tickFrame poll target).length = 20 := by
  cases poll <;> rfl

/-! ## The two states of rest (R174, R177) -/

/-- The state in which every tick answers `c` and nothing moves but by reset: STANDBY where it continues, ERROR where
it stops (R222). -/
def restState : Bool → CtrlState
  | true => .standby
  | false => .error

theorem execTick_of_rest {c : Bool} (hc : s.ctrl = restState c) : execTick s = .next (finishTick c s) := by
  cases c with
  | false => exact execTick_error hc
  | true => exact execTick_standby hc

/-- `t` is at rest with the cause that `s` had, and its `TICK_RESULT` is that of `s` or a tick's answer `c` (R183). -/
def restsSince (c : Bool) (s t : State) : Prop :=
  t.ctrl = restState c ∧ t.errCause = s.errCause ∧ (t.tickResult = s.tickResult ∨ t.tickResult = ⟨true, c⟩)

/-- At rest no instruction moves STATE or the cause, and a tick among them answers `c`. -/
theorem restsSince_exec {c : Bool} {s₀ : State} (h : restsSince c s₀ s) {i : Instr} (he : exec i s = .next t) :
    restsSince c s₀ t := by
  rcases exec_cases he with ⟨r, rfl⟩ | ⟨p, -, rfl⟩ | ⟨n, -, rfl⟩ | ⟨-, hx⟩ | ⟨l, rfl, -, -⟩
  · exact h
  · exact h
  · exact h
  · obtain ⟨hc, hcause, -⟩ := h
    rw [execTick_of_rest hc] at hx
    cases hx
    exact ⟨hc, hcause, .inr rfl⟩
  · exact h

/-! ## What is presented (R70) -/

/-- A tick takes nothing from what is presented. -/
theorem execTick_inbox (h : execTick s = .next t) : t.inbox = s.inbox := by
  rcases execTick_cases h with ⟨-, rfl⟩ | ⟨-, rfl⟩ | ⟨-, -, hx⟩ | ⟨-, -, hx⟩
  · rfl
  · rfl
  all_goals
    rw [(exchange_frame hx).1]
    rfl

theorem exec_inbox {i : Instr} (h : exec i s = .next t) : t.inbox = s.inbox := by
  rcases exec_cases h with ⟨r, rfl⟩ | ⟨p, -, rfl⟩ | ⟨n, -, rfl⟩ | ⟨-, hx⟩ | ⟨l, rfl, -, -⟩
  · rfl
  · rfl
  · rfl
  · exact execTick_inbox hx
  · rfl

/-- A step takes the first event away. -/
theorem step_inbox (h : step s = .next t) : t.inbox = s.inbox.tail := by
  rcases step_cases h with ⟨hin, rfl⟩ | ⟨x, i, rest, hin, -, he⟩ | ⟨e, v, rest, hin, -, rfl⟩ | ⟨rest, hin, rfl⟩
  · simp [hin]
  · simpa [hin] using exec_inbox he
  · simp [hin]
  · simp [hin]

theorem noReset_step (hn : noReset s) (h : step s = .next t) : noReset t := by
  rw [noReset, step_inbox h]
  exact fun hmem => hn (List.mem_of_mem_tail hmem)

/-- Without RESET a step keeps the block at rest. -/
theorem restsSince_step {c : Bool} {s₀ : State} (h : restsSince c s₀ s) (hn : noReset s)
    (hstep : step s = .next t) : restsSince c s₀ t := by
  rcases step_cases hstep with ⟨-, rfl⟩ | ⟨x, i, rest, -, -, he⟩ | ⟨e, v, rest, -, -, rfl⟩ | ⟨rest, hin, rfl⟩
  · exact h
  · have hrest : restsSince c s₀ { s with inbox := rest } := h
    exact restsSince_exec hrest he
  · exact h
  · simp [noReset, hin] at hn

/-! ## Runs -/

/-- A run of one step more that answers is a step that answers and the run after it. -/
theorem run_succ_next {k : Nat} (h : Host.Core.run core (k + 1) s = .next t) :
    ∃ u, step s = .next u ∧ Host.Core.run core k u = .next t := by
  simp only [Host.Core.run] at h
  split at h
  · next u hstep => exact ⟨u, hstep, h⟩
  · cases h
  · cases h

/-- What every step keeps holds at the end of a run that started with it. -/
theorem run_keeps {P : State → Prop} (hP : ∀ s t, P s → step s = .next t → P t) {k : Nat} (hs : P s)
    (hrun : Host.Core.run core k s = .next t) : P t := by
  induction k generalizing s with
  | zero => exact Host.Outcome.next.inj hrun ▸ hs
  | succ k ih =>
    obtain ⟨u, hstep, hrest⟩ := run_succ_next hrun
    exact ih (hP s u hs hstep) hrest

/-- Without RESET a run that starts at rest ends at rest, of any length (R183). -/
theorem run_restsSince {c : Bool} (hc : s.ctrl = restState c) (hn : noReset s) {k : Nat}
    (hrun : Host.Core.run core k s = .next t) : restsSince c s t :=
  (run_keeps (P := fun u => restsSince c s u ∧ noReset u)
    (fun _ _ hu hstep => ⟨restsSince_step hu.1 hu.2 hstep, noReset_step hu.2 hstep⟩)
    ⟨⟨hc, rfl, .inl rfl⟩, hn⟩ hrun).1

end Sys2Proof.Machine

namespace Sys2Proof.Safety

open Sys2Proof.Machine

/-- The invariant shuts STANDBY out under `SLIP_MASK = 0x02`: it takes a held slip of 1, and slip is 0 or 2. -/
theorem blockInv_ctrl_ne_standby {s : State} (h : BlockInv s) (hm : s.params.slipMask = .mask02) :
    s.ctrl ≠ .standby := by
  intro hc
  obtain ⟨-, hack, -⟩ := h.movedByAck (.inr hc)
  have hone := h.standbySlip hc
  have hmasked := h.slipUnderMask02 hm hack
  rw [hone] at hmasked
  exact absurd hmasked (by decide)

/-- Settles O5: the invariant and the mask hold at reset, and every step keeps both. -/
theorem standbyIsUnreachableUnderMask02 : Obligations.StandbyIsUnreachableUnderMask02 := by
  intro n events tx rx k t hrun
  obtain ⟨hinv, hmask⟩ := run_keeps (P := fun u => BlockInv u ∧ u.params.slipMask = .mask02)
    (fun u v ⟨hinv, hmask⟩ hstep =>
      ⟨stepKeepsTheInvariant u v hinv hstep, parametersNeverChange u v hstep ▸ hmask⟩)
    ⟨resetMeetsTheInvariant.2 _ _ _ _, rfl⟩ hrun
  exact blockInv_ctrl_ne_standby hinv hmask

/-- Settles O6: ERROR is the rest in which every tick stops. -/
theorem errorIsAbsorbing : Obligations.ErrorIsAbsorbing :=
  fun _ _ _ hc hn hrun => run_restsSince (c := false) hc hn hrun

/-- Settles O7: STANDBY is the rest in which every tick continues. -/
theorem standbyIsAbsorbing : Obligations.StandbyIsAbsorbing :=
  fun _ _ _ hc hn hrun => run_restsSince (c := true) hc hn hrun

/-- Settles O32: ENGAGED sends the intent's frame and moves by its row of R179. -/
theorem tickInEngagedExchanges : Obligations.TickInEngagedExchanges := by
  intro s hc hv hw hlen
  obtain ⟨t, a, htick, hack, hholds, hframe⟩ := execTick_of_twelve (.inl hc) hv hw hlen
  rw [sentFrame_engaged hc] at hholds hframe
  rw [hc, nextState_engaged] at hframe
  exact ⟨t, a, htick, hack, hholds, hframe⟩

/-- Settles O33: ARMED sends the poll frame and moves by its row of R179. -/
theorem tickInArmedExchanges : Obligations.TickInArmedExchanges := by
  intro s hc hv hw hlen
  obtain ⟨t, a, htick, hack, hholds, hframe⟩ := execTick_of_twelve (.inr hc) hv hw hlen
  rw [sentFrame_armed hc] at hholds hframe
  rw [hc, nextState_armed] at hframe
  exact ⟨t, a, htick, hack, hholds, hframe⟩

/-- Settles O38: the rows are the equations of the transition, and both numbers lie in one range. -/
theorem transitionTable : Obligations.TransitionTable := by
  intro tgt pos slip hlow hhigh
  have hpos := pos.isLt
  rw [nextState_engaged, nextState_armed]
  refine ⟨abs_le.2 ⟨by omega, by omega⟩, fun hs => ?_, fun hs hd => ?_, fun hs hd => ?_⟩
  · exact ⟨if_pos hs, if_pos hs⟩
  · rw [if_neg hs, if_neg hs]
    exact ⟨if_pos hd, if_neg (not_le.2 hd)⟩
  · rw [if_neg hs, if_neg hs]
    exact ⟨if_neg (not_lt.2 hd), if_pos hd⟩

/-- Settles O39: a tick at rest answers as its state says, and an exchange enters ERROR exactly where it fails. -/
theorem tickStopsExactlyInError : Obligations.TickStopsExactlyInError := by
  intro s t h
  have hstops : ∃ c, t.tickResult = ⟨true, c⟩ ∧ t.result = .cont c ∧ (c = false ↔ t.ctrl = .error) := by
    rcases execTick_cases h with ⟨hc, rfl⟩ | ⟨hc, rfl⟩ | ⟨hc, -, hx⟩ | ⟨hc, -, hx⟩
    · exact ⟨false, rfl, rfl, by simp [hc]⟩
    · exact ⟨true, rfl, rfl, by simp [hc]⟩
    · exact exchange_stops_iff (.inl hc) hx
    · exact exchange_stops_iff (.inr hc) hx
  obtain ⟨c, hres, hout, hiff⟩ := hstops
  rw [hres]
  exact ⟨rfl, hout, hiff⟩

/-- Settles O40: the mask keeps both bits, so slip is 1, which wins over the distance. -/
theorem slipOneMovesToStandby : Obligations.SlipOneMovesToStandby := by
  intro s hm hc hv hw hlen hstatus
  obtain ⟨t, a, htick, ⟨-, hslip, -⟩, -, hframe⟩ := execTick_of_twelve hc hv hw hlen
  rw [hm] at hslip
  have hone : a.slip = 1 := BitVec.eq_of_toNat_eq (hslip.trans hstatus)
  refine ⟨t, htick, ?_, ?_⟩
  · rw [hframe]
    exact if_pos hone
  · rw [hframe]

/-- Settles O41: an exchange sends one frame by one write; at rest the link is not touched. -/
theorem tickSendsOneFrameAndReadsAtMostOnce : Obligations.TickSendsOneFrameAndReadsAtMostOnce := by
  intro s t h
  refine ⟨fun hc => ?_, fun hc => by rw [execTick_resting_frame h hc]⟩
  obtain ⟨poll, target, hx⟩ := execTick_exchanging h hc
  obtain ⟨hframes, hwrites, hreads⟩ := exchange_link hx
  exact ⟨⟨_, tickFrame_length poll target, hframes⟩, hwrites, hreads⟩

/-- Settles O29: both commands complete with the record they write. -/
theorem intentCommandsWriteTheIntent : Obligations.IntentCommandsWriteTheIntent :=
  fun _ _ => ⟨rfl, rfl, rfl, rfl⟩

/-- Settles O30: ERROR's arm ends the tick with stop. -/
theorem tickInErrorStops : Obligations.TickInErrorStops :=
  fun _ hc => execTick_error hc

/-- Settles O31: STANDBY's arm ends the tick with continue. -/
theorem tickInStandbyContinues : Obligations.TickInStandbyContinues :=
  fun _ hc => execTick_standby hc

end Sys2Proof.Safety
end

section
/-! PROOFS. The exceptions (spec/60_exceptions.md): the two failures of an exchange (R212, R213), the two model faults
(R217), what is refused (R218), and who moves STATE and INTENT (R225). -/

namespace Sys2Proof.Machine

open Safety

variable {s t : State}

/-! ## The owners of STATE and INTENT (R34, R225) -/

/-- A tick reads the intent and does not write it (R181). -/
theorem execTick_intent (h : execTick s = .next t) : t.intent = s.intent := by
  rcases execTick_cases h with ⟨-, rfl⟩ | ⟨-, rfl⟩ | ⟨-, -, hx⟩ | ⟨-, -, hx⟩
  · rfl
  · rfl
  all_goals
    rw [(exchange_frame hx).1]
    rfl

/-- Of the instructions TICK alone moves STATE. -/
theorem exec_moves_ctrl {i : Instr} (h : exec i s = .next t) (hne : t.ctrl ≠ s.ctrl) : i = .tick := by
  rcases exec_cases h with ⟨r, rfl⟩ | ⟨p, -, rfl⟩ | ⟨n, -, rfl⟩ | ⟨htick, -⟩ | ⟨l, rfl, -, -⟩
  · exact absurd rfl hne
  · exact absurd rfl hne
  · exact absurd rfl hne
  · exact htick
  · exact absurd rfl hne

/-- Of the instructions SETPOLL and SETINT alone move INTENT. -/
theorem exec_moves_intent {i : Instr} (h : exec i s = .next t) (hne : t.intent ≠ s.intent) :
    i = .setpoll ∨ ∃ v, i = .setint v := by
  rcases exec_cases h with ⟨r, rfl⟩ | ⟨p, -, rfl⟩ | ⟨n, hset, -⟩ | ⟨-, hx⟩ | ⟨l, rfl, -, -⟩
  · exact absurd rfl hne
  · exact absurd rfl hne
  · exact hset.imp And.left fun ⟨v, hv, _⟩ => ⟨v, hv⟩
  · exact absurd (execTick_intent hx) hne
  · exact absurd rfl hne

/-! ## The two failures of an exchange (R212, R213) -/

/-- The link after a tick's write, no read having been made. -/
theorem link_sendFrame (poll : Bool) (target : Half) (s : State) :
    (sendFrame poll target s).link = linkAfter s.link (tickFrame poll target) 0 := by
  rw [sendFrame_link, makeFrame_posPayload_eq_tickFrame]
  rfl

/-- An exchange whose read is answered with fewer than twelve bytes fails after that read (R212). -/
theorem exchange_of_short (hw : txAnswer s = .ok) (hshort : (rxAnswer s).length < 12)
    (poll : Bool) (target : Half) (tgt : Int) :
    exchange poll target tgt s = .next (failExchange .ackDecodeFailure (rxRead (sendFrame poll target s))) := by
  rw [exchange_of_txAnswer_ok hw]
  exact receiveAck_of_short tgt _ hshort

/-! ## The two model faults (R217) -/

/-- Without an intent neither exchanging state has a frame to send. -/
theorem execTick_of_intent_unset (hc : exchanges s) (hv : s.intent.valid = false) :
    execTick s = .fault .intentUnset := by
  rcases hc with hc | hc
  · simp [execTick, hc, tickEngaged, hv]
  · simp [execTick, hc, tickArmed, hv]

/-- In any state an element whose valid condition is false has no value: the invariant is needed only for the
converse, at the offsets of FRAME. -/
theorem elementValue_of_not_readValid {e : Element} (h : readValid e s = false) : elementValue e s = none := by
  cases e with
  | state | ackValid | tickValid | errCause | frameLen => cases h
  | frameByte i => exact if_neg (of_decide_eq_false h)
  | ackEngaged | ackSlip | ackAlarm | ackPosition | ackVoltage | ackTorque | tickCont | accAdd | accXor =>
    exact if_neg (Bool.eq_false_iff.1 h)

/-! ## What the port performs (R70, R219) -/

/-- With nothing presented the block is idle (R228). -/
theorem step_of_empty (h : s.inbox = []) : step s = .next s := by
  simp only [step, runPort, h]

/-- A number of the opcode table that decodes is the number of a transaction that decodes. -/
theorem decode_of_decodeTableWord {nbits w : Nat} {i : Instr} (h : decodeTableWord nbits w = some i) :
    decode (transactionOfTableWord nbits w) = .ok i := by
  unfold decodeTableWord at h
  split at h
  · next j hj => rw [hj, Option.some.inj h]
  · cases h

end Sys2Proof.Machine

namespace Sys2Proof.Safety

open Sys2Proof.Machine

/-- Settles O9: an instruction that moves either is its owner, a host read moves neither, and the rest is RESET. -/
theorem onlyTheOwnersMoveStateAndIntent : Obligations.OnlyTheOwnersMoveStateAndIntent := by
  intro s t hstep
  rcases step_cases hstep with ⟨-, rfl⟩ | ⟨x, i, rest, hin, hd, he⟩ | ⟨e, v, rest, -, -, rfl⟩ | ⟨rest, hin, -⟩
  · exact ⟨absurd rfl, absurd rfl⟩
  · have hhead : s.inbox.head? = some (.transaction x) := by simp [hin]
    refine ⟨fun hne => .inr ⟨x, hhead, ?_⟩, fun hne => .inr ⟨x, hhead, ?_⟩⟩
    · rw [hd, exec_moves_ctrl he hne]
    · rcases exec_moves_intent he hne with rfl | ⟨v, rfl⟩
      · exact .inl hd
      · exact .inr ⟨v, hd⟩
  · exact ⟨absurd rfl, absurd rfl⟩
  · have hhead : s.inbox.head? = some .reset := by simp [hin]
    exact ⟨fun _ => .inl hhead, fun _ => .inl hhead⟩

/-- Settles O34: the exchange ends at the write, with the frame that it sent in the registers. -/
theorem writeFailureEntersError : Obligations.WriteFailureEntersError := by
  intro s hc hv hw
  obtain ⟨poll, target, hframe, htick⟩ := execTick_of_exchanges hc hv
  rw [exec_tick, ← hframe, htick, exchange_of_txAnswer_err hw, ← link_sendFrame]
  exact ⟨_, rfl, rfl, holdsFrame_sendFrame poll target s, rfl⟩

/-- Settles O35: the exchange ends at the decode, and neither the read nor the failure writes the registers. -/
theorem decodeFailureEntersError : Obligations.DecodeFailureEntersError := by
  intro s hc hv hw hshort
  obtain ⟨poll, target, hframe, htick⟩ := execTick_of_exchanges hc hv
  rw [exec_tick, ← hframe, htick, exchange_of_short hw hshort, ← link_rxRead_sendFrame]
  exact ⟨_, rfl, rfl, holdsFrame_sendFrame poll target s, rfl⟩

/-- Settles O13: the port has nothing to perform. -/
theorem idleBlockKeepsItsState : Obligations.IdleBlockKeepsItsState :=
  fun _ hin => step_of_empty hin

/-- Settles O37: both faults are raised in any state, the invariant aside. -/
theorem modelFaults : Obligations.ModelFaults := by
  refine ⟨fun _ hc hv => execTick_of_intent_unset hc hv, fun s e rest hin hv => ?_⟩
  rw [step_of_read hin]
  exact hostRead_of_none (elementValue_of_not_readValid ((readValid_setInbox e s rest).trans hv))

/-- Settles O52: a number of the table is presented before what was there, and the step leaves that. -/
theorem stepRunsTheDecodedInstruction : Obligations.StepRunsTheDecodedInstruction :=
  ⟨fun _ _ _ _ hin hd => step_of_decoded hin hd,
    fun s nbits w _ hw =>
      step_of_decoded (s := s.withFetchWord nbits w) (rest := s.inbox) rfl (decode_of_decodeTableWord hw)⟩

/-- Settles O53: each rejection has its refusal. -/
theorem rejectedTransactionsAreRefused : Obligations.RejectedTransactionsAreRefused :=
  fun _ _ _ hin => ⟨step_of_rejected hin, step_of_rejected hin, step_of_rejected hin⟩

end Sys2Proof.Safety
end

section
/-! PROOFS. The RESET input (spec/70_reset_and_hazards.md): presented first, it puts the block at its reset values (R240)
and leaves the parameters and the transport (R241). -/

namespace Sys2Proof.Machine

/-- A RESET presented first is performed in any state, STATE = ERROR too (R222), with the rest left in the queue. -/
theorem step_of_reset {s : State} {rest : List Event} (h : s.inbox = .reset :: rest) :
    step s = .next (resetBlock { s with inbox := rest }) := by
  simp only [step, runPort, h, runEvent]

end Sys2Proof.Machine

namespace Sys2Proof.Safety

open Sys2Proof.Machine

/-- Settles O2: the step answers the block at reset, and each clause is the value of one of its elements. -/
theorem resetInputRestoresTheBlock : Obligations.ResetInputRestoresTheBlock := by
  intro s rest hin
  refine ⟨resetBlock { s with inbox := rest }, step_of_reset hin, ?_⟩
  simp only [resetBlock_ctrl, resetBlock_intent, resetBlock_ack, resetBlock_tickResult, resetBlock_errCause,
    resetBlock_frameLen, resetBlock_frame, memory_read_nil, resetBlock_params, resetBlock_link, resetBlock_inbox,
    implies_true, and_self]

end Sys2Proof.Safety
end

section
/-! PROOFS. What the host and the link put in: a step takes one presented event (log entry 2), and a wire frame crosses
the link in one step (log entry 9), an acknowledgement to be decoded at the next read (R85, R151). -/

namespace Sys2Proof.Machine

/-! ## The wire frames (R82 to R85) -/

theorem exec_ssnFrame (n c a x : Byte) (s : State) :
    exec (.ssnFrame n c a x) s = .next (linkOffer (ssnFrameBytes n c a x) s) := rfl

theorem exec_posFrame (l h a x : Byte) (s : State) :
    exec (.posFrame l h a x) s = .next (linkOffer (posFrameBytes l h a x) s) := rfl

theorem exec_pollFrame (s : State) : exec .pollFrame s = .next (linkOffer pollFrameBytes s) := rfl

theorem exec_ackFrame (raw : AckBytes) (s : State) :
    exec (.ackFrame raw) s = .next (linkDeliver (ackFrameBytes raw) s) := rfl

/-! ## A delivered acknowledgement -/

/-- With no answer listed, a delivered frame is at the head of the list, so the next read answers it (R66). -/
theorem rxAnswer_linkDeliver_of_empty {s : State} (h : s.link.rxQueue = []) (bytes : List Byte) :
    rxAnswer (linkDeliver bytes s) = bytes := by
  simp only [rxAnswer, linkDeliver_link, h, List.nil_append]

/-- An acknowledgement has the twelve bytes that the parser asks for (R85, R150). -/
theorem decodeAck_ackFrameBytes (m : SlipMask) (raw : AckBytes) :
    decodeAck m (ackFrameBytes raw) = some (extract m (ackFrameBytes raw)) :=
  decodeAck_of_long m _ (ackFrameBytes_length raw).ge

end Sys2Proof.Machine

namespace Sys2Proof.Safety

open Sys2Proof.Machine

/-- Settles O11: no event that a step performs writes the queue, which the port has cut by its first. -/
theorem stepTakesOneEvent : Obligations.StepTakesOneEvent :=
  fun _ _ => step_inbox

/-- Settles O55: the delivered frame is the next read's answer, and the parser's laws speak of its bytes. -/
theorem deliveredAckIsDecoded : Obligations.DeliveredAckIsDecoded := by
  intro s raw hempty
  have hdecode : decodeAck s.params.slipMask (rxAnswer (linkDeliver (ackFrameBytes raw) s)) =
      some (extract s.params.slipMask (ackFrameBytes raw)) := by
    rw [rxAnswer_linkDeliver_of_empty hempty, decodeAck_ackFrameBytes]
  obtain ⟨hengaged, hslip, halarm, hposition, hvoltage, htorque⟩ :=
    ackFieldsOf_extract s.params.slipMask (ackFrameBytes raw)
  exact ⟨linkDeliver (ackFrameBytes raw) s, _, exec_ackFrame raw s, hdecode, hengaged, halarm,
    fun hm => hslip.trans (by rw [hm]; rfl), fun hm => hslip.trans (by rw [hm]; rfl), hposition, hvoltage, htorque⟩

/-- Settles O54: the outbound frames are offered and the acknowledgement delivered, each with the bytes of R82 to
R85. -/
theorem wireFramesCrossTheLink : Obligations.WireFramesCrossTheLink :=
  fun s n c a x raw => ⟨exec_ssnFrame n c a x s, exec_posFrame n c a x s, exec_pollFrame s, exec_ackFrame raw s⟩

end Sys2Proof.Safety
end
